-- ==== Sys2Proof/Word.lean ====
section
/-! DEFINITION. Words, levels, and the four-lane records of the block (00_scope.md R6 to R8). -/

namespace Sys2Proof

/-- A command word: `CMD_W` = 48 bits (00_scope.md R7, 30_encoding.md R60). -/
abbrev CmdWord := BitVec 48

/-- A data byte of a frame: `DATA_W` = 8 bits (00_scope.md R7). -/
abbrev Byte := BitVec 8

/-- A pin identity: `PIN_W` = 8 bits (00_scope.md R7). -/
abbrev PinId := BitVec 8

/-- A level of a line: true is "logic high" (00_scope.md section 6). -/
abbrev Level := Bool

/-- One value per channel; exactly four channels (00_scope.md R8, 10_state.md R12). -/
structure Lanes (α : Type) where
  l0 : α
  l1 : α
  l2 : α
  l3 : α
deriving DecidableEq, Repr

/-- The value of channel `i`. -/
def Lanes.get {α : Type} (l : Lanes α) (i : Fin 4) : α :=
  match i with
  | 0 => l.l0
  | 1 => l.l1
  | 2 => l.l2
  | 3 => l.l3

/-- Replace the value of channel `i`. -/
def Lanes.set {α : Type} (l : Lanes α) (i : Fin 4) (a : α) : Lanes α :=
  match i with
  | 0 => { l with l0 := a }
  | 1 => { l with l1 := a }
  | 2 => { l with l2 := a }
  | 3 => { l with l3 := a }

/-- The record whose channel `i` is `f i`. -/
def Lanes.ofFn {α : Type} (f : Fin 4 → α) : Lanes α := ⟨f 0, f 1, f 2, f 3⟩

end Sys2Proof
end

