-- ==== Sys2Proof/Config.lean ====
section
/-! DEFINITION. What an implementation fixes: the parameters of 00_scope.md R7 that the spec leaves
open or lets a model instantiate, as plain data, and the one free value. -/

namespace Sys2Proof

/-- One row of the platform's pin map (10_state.md R16, 20_memory.md R45): the pin identity `pin` is
bit `bit` of port register `port`. -/
structure PinRow where
  pin  : PinId
  port : Nat
  bit  : Nat
deriving DecidableEq, Repr

/-- The parameters of 00_scope.md R7 that are arguments of the model. The open platform functions
`PinValid`, `PortOf` and `MaskOf` are given by the table `pins`: any such functions on the 256 pin
identities are some table. Carried in `State.cfg`, so that every statement over all states holds for
every value (notes/assumptions/4.md). -/
structure Config where
  /-- `PORT_W`, OPEN (D32). -/
  portW : Nat
  /-- `NPORT`, OPEN (D32). -/
  nport : Nat
  /-- `PinValid`, `PortOf`, `MaskOf`, OPEN (D32). -/
  pins : List PinRow
  /-- `IE_RESET`, OPEN (D26). -/
  ieReset : Bool
  /-- `CLK_DIV_FIXED`, OPEN, required nonzero (D14, 40_clock.md R86). -/
  divFixed : BitVec 16
  /-- `CLK_CMP_FIXED`: 20, the other reported value 19 (D14). -/
  cmpFixed : BitVec 16
  /-- `PRE_SYNC`: 0, the other reported value 1 (D17, 42_write.md R140). -/
  preSync : Nat
  /-- `PAR_FOLLOWS_INV`: true, the other reading false (D19, 42_write.md R123). -/
  parFollowsInv : Bool
deriving DecidableEq, Repr

/-- `LOOP_NCH`: the channel bound of the data-bit loop (00_scope.md R7, D18). The value 0 of one
revision "is not to be modelled as the block" (93_implementation_defined.md U12). -/
def Config.loopNch : Nat := 4

/-- `RES_OK`, the result of WRITE (00_scope.md R7). -/
def Config.resOk : BitVec 32 := 1

/-- `RES_NODATA`, the result of READ and AVAILABLE: −1, all bits set (00_scope.md R7, 10_state.md R20). -/
def Config.resNoData : BitVec 32 := 0xFFFFFFFF

/-- `RES_TRUE`, the result of VALID (00_scope.md R7). -/
def Config.resTrue : BitVec 32 := 1

/-- FREE VALUE (notes/assumptions/15.md): the parity bit from the bit-count parity if `PMODE` held 3.
BEGIN faults before 3 could be stored (10_state.md R24), so no run reads it. -/
opaque Config.reservedParity : Bool → Bool

/-- What the spec requires of the parameters: a nonzero `CLK_DIV_FIXED` (40_clock.md R90), the two
reported values of `CLK_CMP_FIXED` and `PRE_SYNC` (00_scope.md R7), and a pin map that is a function
and injective (93_implementation_defined.md U20). -/
def Config.ok (c : Config) : Bool :=
  c.divFixed != 0 && (c.cmpFixed == 20 || c.cmpFixed == 19) && decide (c.preSync ≤ 1) &&
  decide (c.pins.Pairwise fun a b => a.pin ≠ b.pin ∧ (a.port, a.bit) ≠ (b.port, b.bit))

/-- The example platform of 95_test_vectors.md: sixteen pins, pin n is bit n mod 8 of port n div 8. -/
def Config.exampleRows : List PinRow :=
  (List.range 16).map fun n => ⟨BitVec.ofNat 8 n, n / 8, n % 8⟩

/-- The example platform of 95_test_vectors.md with the default parameters of 00_scope.md R7.
DESIGN CHOICE (notes/assumptions/4.md): the divider 8 and `IE_RESET` = 1. -/
def Config.examplePlatform : Config where
  portW := 8
  nport := 2
  pins := Config.exampleRows
  ieReset := true
  divFixed := 8
  cmpFixed := 20
  preSync := 0
  parFollowsInv := true

end Sys2Proof
end

