-- ==== Sys2Proof/Syntax.lean ====
section
/-! DEFINITION. The eleven commands of BMS-CMD version 1 (30_encoding.md R66). -/

namespace Sys2Proof

/-- A command with its operands, one constructor per row of the opcode map (30_encoding.md R66). -/
inductive Instr where
  /-- `Construct(channels[4], invertPolarity)` (41_lifecycle.md R101). -/
  | construct (pin0 pin1 pin2 pin3 : PinId) (inv : Bool)
  /-- `begin(bitRate, parityMode, stopBits)` (41_lifecycle.md R104). -/
  | begin (rate : BitVec 32) (par : BitVec 2) (stop : BitVec 6)
  /-- `write(data[4])` (42_write.md R120). -/
  | write (d0 d1 d2 d3 : Byte)
  /-- `read()` (43_stream.md R150). -/
  | read
  /-- `available()` (43_stream.md R151). -/
  | available
  /-- `flush()` (43_stream.md R152). -/
  | flush
  /-- The is-valid query (43_stream.md R153). -/
  | valid
  /-- Destruction of the instance (41_lifecycle.md R107). -/
  | destroy
  /-- `configure(divider, compareValue)` (40_clock.md R81). -/
  | clkConfigure (div cmp : BitVec 16)
  /-- `awaitTick()` (40_clock.md R82). -/
  | clkAwait
  /-- `stop()` (40_clock.md R83). -/
  | clkStop
deriving DecidableEq, Repr

end Sys2Proof
end

