-- ==== Sys2Proof/WellFormed.lean ====
section
/-! DEFINITION. Which commands have an encoding. -/

namespace Sys2Proof

/-- A command is well-formed iff some word spells it. Every operand has exactly the width of its field
(30_encoding.md R66), so the only check left is the reserved parity mode 3 of BEGIN (R67). -/
def Instr.wf : Instr → Bool
  | .begin _ par _ => par != 3
  | .construct .. | .write .. | .read | .available | .flush | .valid | .destroy
  | .clkConfigure .. | .clkAwait | .clkStop => true

end Sys2Proof
end

