-- ==== Sys2Proof/Decode.lean ====
section
/-! DEFINITION. The decoder, total on every 48-bit word, and the encoder (30_encoding.md). -/

namespace Sys2Proof

/-- Why a word is an illegal command (30_encoding.md R69). -/
inductive DecodeError where
  /-- The opcode is not one of the eleven assigned values. -/
  | unassignedOpcode
  /-- A reserved bit of the format is 1. -/
  | reservedBits
  /-- A BEGIN with `par` = 3. -/
  | reservedParity
deriving DecidableEq, Repr

/-- `op` = `W[47:40]` (30_encoding.md R60). -/
def opField (w : CmdWord) : BitVec 8 := w.extractLsb' 40 8

/-- Byte i of the operand field: `W[8i+7:8i]` (30_encoding.md R48, R66). -/
def byteField (w : CmdWord) (i : Nat) : BitVec 8 := w.extractLsb' (8 * i) 8

/-- Format N: the operand field is reserved (30_encoding.md R61). -/
def decodeN (w : CmdWord) (i : Instr) : Except DecodeError Instr :=
  if w.extractLsb' 0 40 = 0 then .ok i else .error .reservedBits

/-- Format C (30_encoding.md R62). -/
def decodeC (w : CmdWord) : Except DecodeError Instr :=
  if w.extractLsb' 33 7 = 0 then
    .ok (.construct (byteField w 0) (byteField w 1) (byteField w 2) (byteField w 3) (w.getLsbD 32))
  else .error .reservedBits

/-- Format B (30_encoding.md R63); the parity mode 3 is illegal (R67). -/
def decodeB (w : CmdWord) : Except DecodeError Instr :=
  if w.extractLsb' 32 2 = 3 then .error .reservedParity
  else .ok (.begin (w.extractLsb' 0 32) (w.extractLsb' 32 2) (w.extractLsb' 34 6))

/-- Format W (30_encoding.md R64). -/
def decodeW (w : CmdWord) : Except DecodeError Instr :=
  if w.extractLsb' 32 8 = 0 then
    .ok (.write (byteField w 0) (byteField w 1) (byteField w 2) (byteField w 3))
  else .error .reservedBits

/-- Format K (30_encoding.md R65). -/
def decodeK (w : CmdWord) : Except DecodeError Instr :=
  if w.extractLsb' 32 8 = 0 then .ok (.clkConfigure (w.extractLsb' 16 16) (w.extractLsb' 0 16))
  else .error .reservedBits

/-- The command a word spells, or why it spells none (30_encoding.md R66, R69). -/
def decode (w : CmdWord) : Except DecodeError Instr :=
  if opField w = 0x01 then decodeC w
  else if opField w = 0x02 then decodeB w
  else if opField w = 0x03 then decodeW w
  else if opField w = 0x04 then decodeN w .read
  else if opField w = 0x05 then decodeN w .available
  else if opField w = 0x06 then decodeN w .flush
  else if opField w = 0x07 then decodeN w .valid
  else if opField w = 0x08 then decodeN w .destroy
  else if opField w = 0x10 then decodeK w
  else if opField w = 0x11 then decodeN w .clkAwait
  else if opField w = 0x12 then decodeN w .clkStop
  else .error .unassignedOpcode

/-- The word that spells a command (30_encoding.md R61 to R66); of an ill-formed BEGIN, the illegal word
its fields give. -/
def encode : Instr → CmdWord
  | .construct p0 p1 p2 p3 inv => 0x01#8 ++ 0#7 ++ BitVec.ofBool inv ++ p3 ++ p2 ++ p1 ++ p0
  | .begin rate par stop => 0x02#8 ++ stop ++ par ++ rate
  | .write d0 d1 d2 d3 => 0x03#8 ++ 0#8 ++ d3 ++ d2 ++ d1 ++ d0
  | .read => 0x04#8 ++ 0#40
  | .available => 0x05#8 ++ 0#40
  | .flush => 0x06#8 ++ 0#40
  | .valid => 0x07#8 ++ 0#40
  | .destroy => 0x08#8 ++ 0#40
  | .clkConfigure div cmp => 0x10#8 ++ 0#8 ++ div ++ cmp
  | .clkAwait => 0x11#8 ++ 0#40
  | .clkStop => 0x12#8 ++ 0#40

/-- One row of the opcode map: a word `W` spells the row's command iff `W & mask = match`, and for
BEGIN `W[33:32] ≠ 3` (30_encoding.md R66). -/
structure OpcodeRow where
  mnemonic : String
  pattern  : CmdWord
  mask     : CmdWord
deriving DecidableEq, Repr

/-- The opcode map of 30_encoding.md R66, as the table writes it. -/
def opcodeRows : List OpcodeRow :=
  [⟨"CONSTRUCT", 0x010000000000, 0xFFFE00000000⟩,
   ⟨"BEGIN", 0x020000000000, 0xFF0000000000⟩,
   ⟨"WRITE", 0x030000000000, 0xFFFF00000000⟩,
   ⟨"READ", 0x040000000000, 0xFFFFFFFFFFFF⟩,
   ⟨"AVAILABLE", 0x050000000000, 0xFFFFFFFFFFFF⟩,
   ⟨"FLUSH", 0x060000000000, 0xFFFFFFFFFFFF⟩,
   ⟨"VALID", 0x070000000000, 0xFFFFFFFFFFFF⟩,
   ⟨"DESTROY", 0x080000000000, 0xFFFFFFFFFFFF⟩] ++
  [⟨"CLK_CONFIGURE", 0x100000000000, 0xFFFF00000000⟩,
   ⟨"CLK_AWAIT", 0x110000000000, 0xFFFFFFFFFFFF⟩,
   ⟨"CLK_STOP", 0x120000000000, 0xFFFFFFFFFFFF⟩]

/-- `W` spells the command of the row (30_encoding.md R66). -/
def OpcodeRow.spells (r : OpcodeRow) (w : CmdWord) : Bool :=
  (w &&& r.mask) == r.pattern && (r.mnemonic != "BEGIN" || w.extractLsb' 32 2 != 3)

/-- The instruction the decoder reads from the word whose bits are `w`, bit 0 the least significant;
the bits above `nbits` are 0. A command is one 48-bit word, presented whole (30_encoding.md R60, R70). -/
def decodeTableWord (nbits w : Nat) : Option Instr :=
  (decode (BitVec.ofNat 48 (w % 2 ^ nbits))).toOption

/-- The mnemonic of a command (30_encoding.md R66, R72). -/
def Instr.mnemonic : Instr → String
  | .construct .. => "CONSTRUCT"
  | .begin .. => "BEGIN"
  | .write .. => "WRITE"
  | .read => "READ"
  | .available => "AVAILABLE"
  | .flush => "FLUSH"
  | .valid => "VALID"
  | .destroy => "DESTROY"
  | .clkConfigure .. => "CLK_CONFIGURE"
  | .clkAwait => "CLK_AWAIT"
  | .clkStop => "CLK_STOP"

/-- An operand written in decimal (30_encoding.md R72). -/
def decimal {n : Nat} (v : BitVec n) : String := toString v.toNat

/-- The parity operand as written: NONE, EVEN or ODD (30_encoding.md R72); the reserved mode has no
name and is written as a number. -/
def parityName (par : BitVec 2) : String :=
  if par = 0 then "NONE" else if par = 1 then "EVEN" else if par = 2 then "ODD" else decimal par

/-- A command in the assembler syntax of 30_encoding.md R72, numbers in decimal. -/
def Instr.asm : Instr → String
  | .construct p0 p1 p2 p3 inv =>
    "CONSTRUCT " ++ decimal p0 ++ ", " ++ decimal p1 ++ ", " ++ decimal p2 ++ ", " ++ decimal p3 ++
      ", " ++ (if inv then "INVERTED" else "NORMAL")
  | .begin rate par stop => "BEGIN " ++ decimal rate ++ ", " ++ parityName par ++ ", " ++ decimal stop
  | .write d0 d1 d2 d3 =>
    "WRITE " ++ decimal d0 ++ ", " ++ decimal d1 ++ ", " ++ decimal d2 ++ ", " ++ decimal d3
  | .clkConfigure div cmp => "CLK_CONFIGURE " ++ decimal div ++ ", " ++ decimal cmp
  | .read => Instr.mnemonic .read
  | .available => Instr.mnemonic .available
  | .flush => Instr.mnemonic .flush
  | .valid => Instr.mnemonic .valid
  | .destroy => Instr.mnemonic .destroy
  | .clkAwait => Instr.mnemonic .clkAwait
  | .clkStop => Instr.mnemonic .clkStop

end Sys2Proof
end

