-- ==== Sys2Proof/Machine/State.lean ====
section
/-! DEFINITION. The state of the block: every element of 10_state.md R10, the parameters, and the
inputs that one deterministic step reads (what the host will do, whose turn comes next). -/

namespace Sys2Proof.Machine

/-- The channel record `CH[i]` (10_state.md R12). -/
structure Channel where
  /-- "output-pin identity" -/
  pin  : PinId
  /-- index of the "output port's data register" -/
  port : Nat
  /-- "precomputed bit-mask for that pin within its I/O port", `PORT_W` bits -/
  mask : Nat
deriving DecidableEq, Repr

/-- The six timer elements (10_state.md R15). -/
structure Timer where
  /-- `T_RUN`: 0 Stopped, 1 Running. -/
  run : Bool
  /-- `T_DIV` -/
  div : BitVec 16
  /-- `T_CMP` -/
  cmp : BitVec 16
  /-- `T_PRE` -/
  pre : BitVec 16
  /-- `T_CNT` -/
  cnt : BitVec 16
  /-- `T_OCF`, the compare-match flag. -/
  ocf : Bool
deriving DecidableEq, Repr

/-- A file of port registers, `PORTDATA` or `PORTMODE` (20_memory.md R40): (index, value) pairs, indices
strictly rising, no listed value 0; an unlisted register reads 0 (notes/assumptions/7.md). The width
`PORT_W` is open, so a value is a Nat below `2 ^ PORT_W`. -/
abbrev PortFile := List (Nat × Nat)

/-- The slots of a WRITE that write the pins (42_write.md R126): START, B0 to B7, PAR, STOP. -/
inductive Slot where
  | start
  | bit (k : Fin 8)
  | par
  | stop
deriving DecidableEq, Repr

/-- The positions of SEQ inside WRITE (42_write.md R139), less `ADM` and `DONE`. -/
inductive WritePos where
  /-- `LATCH`, the assignment to `TXB[i]`. -/
  | latch (i : Fin 4)
  /-- `COUNT`, the assignment to `Q[i]`. -/
  | count (i : Fin 4)
  /-- `ENTER`: step 3. -/
  | enter
  /-- `PRE`: an `await tick` after which `left` further ones of the pre-synchronisation follow. -/
  | pre (left : Nat)
  /-- `X.AWAIT` of slot X. -/
  | await (slot : Slot)
  /-- `X.DRVi` of slot X. -/
  | drv (slot : Slot) (i : Fin 4)
  /-- `T1.AWAIT` -/
  | t1
  /-- `T2.AWAIT` -/
  | t2
  /-- `LEAVE`: step 9. -/
  | leave
deriving DecidableEq, Repr

/-- The lines of CONSTRUCT's pseudocode (41_lifecycle.md R101), less `complete`. -/
inductive ConstructPos where
  | bind (i : Fin 4)
  | polarity
  | drive (i : Fin 4)
  | mode (i : Fin 4)
  | clockStart
  | clearCfgSet
  | setConstructed
deriving DecidableEq, Repr

/-- The lines of BEGIN's pseudocode (41_lifecycle.md R104), less `complete`. -/
inductive BeginPos where
  | storeParity
  | storeStop
  | setCfgSet
  | clockStart
deriving DecidableEq, Repr

/-- The lines of DESTROY's pseudocode (41_lifecycle.md R107), less `complete`. -/
inductive DestroyPos where
  | stopClock
  | clearCfgSet
  | clearConstructed
deriving DecidableEq, Repr

/-- `POS`, the position of SEQ (10_state.md R19, R26): idle, the admission sequence, a line of the
running command, or its `complete`. -/
inductive Pos where
  | idle
  | adm
  | construct (p : ConstructPos)
  | begin (p : BeginPos)
  | write (p : WritePos)
  | destroy (p : DestroyPos)
  /-- the one assignment line of CLK_CONFIGURE (40_clock.md R81) -/
  | clkConfigure
  /-- the `await tick` of CLK_AWAIT (40_clock.md R82) -/
  | clkAwait
  /-- `T_RUN <- 0` of CLK_STOP (40_clock.md R83) -/
  | clkStop
  /-- `complete` (30_encoding.md R75) -/
  | done
deriving DecidableEq, Repr

/-- What the host may do between commands (20_memory.md R59). -/
inductive HostAct where
  /-- present a command word (30_encoding.md R74) -/
  | command (w : CmdWord)
  /-- write its interrupt-enable bit (10_state.md R21) -/
  | setIe (b : Bool)
deriving DecidableEq, Repr

/-- The two files of port registers (20_memory.md R40). -/
inductive PortReg where
  | data
  | mode
deriving DecidableEq, Repr

/-- A change of one port bit by ENV or the platform (20_memory.md R59). -/
structure PortAct where
  reg   : PortReg
  port  : Nat
  bit   : Nat
  value : Bool
deriving DecidableEq, Repr

/-- Whose turn it is (00_scope.md R6; notes/assumptions/1.md). -/
inductive Turn where
  /-- HOST takes its next action. -/
  | host
  /-- SEQ runs until it completes, faults or stands at a disabled `await tick`. -/
  | seq
  /-- SEQ takes one micro-step. -/
  | micro
  /-- TMR takes one `clk_t` clock (40_clock.md R84). -/
  | clk
  /-- TMR takes the match event (40_clock.md R85). -/
  | matchEvent
  /-- ENV changes a port bit (60_exceptions.md R166). -/
  | env (a : PortAct)
  /-- The platform changes a port bit (10_state.md R10). -/
  | platform (a : PortAct)
  /-- The reset event (70_reset_and_hazards.md R190). -/
  | rst
deriving DecidableEq, Repr

/-- The state (10_state.md R10): all of the spec's elements, and the model's own `cfg`, `host`, `sched`. -/
structure State where
  /-- `CONSTRUCTED` (R11) -/
  constructed : Bool
  /-- `CH[0..3]` (R12) -/
  ch : Lanes Channel
  /-- `INV` (R13) -/
  inv : Bool
  /-- `PMODE` (R14): 0 NONE, 1 EVEN, 2 ODD -/
  pmode : BitVec 2
  /-- `STOPB` (R14) -/
  stopb : BitVec 6
  /-- `CFG_SET` (R14) -/
  cfgSet : Bool
  /-- `T_RUN`, `T_DIV`, `T_CMP`, `T_PRE`, `T_CNT`, `T_OCF` (R15) -/
  timer : Timer
  /-- `PORTDATA[p]` (R16) -/
  portData : PortFile
  /-- `PORTMODE[p]` (R16) -/
  portMode : PortFile
  /-- `TXB[0..3]` (R17) -/
  txb : Lanes Byte
  /-- `Q[0..3]` (R17) -/
  q : Lanes Bool
  /-- `BUSY` (R18) -/
  busy : Bool
  /-- `CMD` (R18) -/
  cmd : CmdWord
  /-- `POS` (R19) -/
  pos : Pos
  /-- `RES` (R20), two's complement -/
  res : BitVec 32
  /-- `IE` (R21) -/
  ie : Bool
  /-- `IE_SAVED` (R21) -/
  ieSaved : Bool
  /-- `FAULT` (R22) -/
  fault : BitVec 3
  /-- The model's own: the parameters; no step writes them (notes/assumptions/4.md). -/
  cfg : Config
  /-- The model's own: what the host will do, next first (notes/assumptions/22.md). -/
  host : List HostAct
  /-- The model's own: whose turn comes next (notes/assumptions/1.md). -/
  sched : List Turn
deriving DecidableEq, Repr

/-- Why the model stops with a fault. The block's own faults are not here: they are next states with
`FAULT` nonzero (60_exceptions.md R163). -/
inductive Fault where
  /-- Raised by a turn of ENV or of the platform that names a port register at or above `NPORT` or a bit
  at or above `PORT_W`: the port space has no such bit (20_memory.md R40). Safe: the model stops. -/
  | noSuchPort
deriving DecidableEq, Repr

/-- Why the model refuses a step. -/
inductive Refusal where
  /-- Raised by `exec` for an instruction that has no meaning yet. Safe: the model stops. -/
  | notModelled (mnemonic : String)
  /-- Raised by a turn of ENV or of the platform that would write a channel bit: "assumed never"
  (20_memory.md R59, 93_implementation_defined.md U18). Unsafe in the sense the spec gives: it errs
  toward proving (notes/assumptions/16.md). -/
  | channelBitDuty
deriving DecidableEq, Repr

/-- A channel record that holds no value (10_state.md R30): DESIGN CHOICE, zeros (notes/assumptions/5.md). -/
def Channel.unset : Channel := ⟨0, 0, 0⟩

/-- The timer after reset: Stopped, flag clear (10_state.md R30); the four others hold no value, DESIGN
CHOICE zero (notes/assumptions/5.md). -/
def Timer.reset : Timer := ⟨false, 0, 0, 0, 0, false⟩

/-- The block after reset on a platform `c`, with the host's actions and the schedule that are still to
come (10_state.md R30, 70_reset_and_hazards.md R190). Elements that R30 gives no value are zero: DESIGN
CHOICE (notes/assumptions/5.md, 7.md). -/
def State.afterReset (c : Config) (host : List HostAct) (sched : List Turn) : State where
  constructed := false
  ch := ⟨.unset, .unset, .unset, .unset⟩
  inv := false
  pmode := 0
  stopb := 0
  cfgSet := false
  timer := .reset
  portData := []
  portMode := []
  txb := ⟨0, 0, 0, 0⟩
  q := ⟨false, false, false, false⟩
  busy := false
  cmd := 0
  pos := .idle
  res := 0
  ie := c.ieReset
  ieSaved := false
  fault := 0
  cfg := c
  host := host
  sched := sched

/-- The machine right after reset, on the example platform (notes/assumptions/4.md), with no command
presented yet and nothing scheduled. -/
def State.reset : State := .afterReset .examplePlatform [] []

end Sys2Proof.Machine
end

