-- ==== Sys2Proof/Machine/Operands.lean ====
section
/-! DEFINITION. Operands: the pin operands through the platform functions, the byte operands of WRITE,
the successors of lanes and slots (30_encoding.md R66, 41_lifecycle.md R103, 42_write.md R139). -/

namespace Sys2Proof.Machine

/-- The place of a pin: port index and bit number, if the platform's map has the pin at a port bit that
exists (20_memory.md R45; notes/assumptions/18.md). -/
def pinPlace (c : Config) (p : PinId) : Option (Nat × Nat) :=
  (c.pins.find? fun r => r.pin == p && decide (r.port < c.nport) && decide (r.bit < c.portW)).map
    fun r => (r.port, r.bit)

/-- `PinValid(pin)` (00_scope.md R7). -/
def pinValid (c : Config) (p : PinId) : Bool := (pinPlace c p).isSome

/-- The channel record of a pin: `pin`, `PortOf(pin)`, `MaskOf(pin)` (10_state.md R12). A mask has exactly
one bit set. A pin that is not valid never reaches this (41_lifecycle.md R103). -/
def channelOf (c : Config) (p : PinId) : Channel :=
  match pinPlace c p with
  | some (port, bit) => ⟨p, port, 2 ^ bit⟩
  | none => ⟨p, 0, 0⟩

/-- The check of 41_lifecycle.md R103: four valid, pairwise distinct pins. -/
def pinsOk (c : Config) (pins : Lanes PinId) : Bool :=
  pinValid c pins.l0 && pinValid c pins.l1 && pinValid c pins.l2 && pinValid c pins.l3 &&
  pins.l0 != pins.l1 && pins.l0 != pins.l2 && pins.l0 != pins.l3 &&
  pins.l1 != pins.l2 && pins.l1 != pins.l3 && pins.l2 != pins.l3

/-- The next lane in ascending order (20_memory.md R53), or none after channel 3. -/
def nextLane (i : Fin 4) : Option (Fin 4) :=
  if h : i.val + 1 < 4 then some ⟨i.val + 1, h⟩ else none

/-- "configured >1": whether a second stop period is sent (30_encoding.md R68, 42_write.md R131). -/
def twoStops (stopb : BitVec 6) : Bool := decide (1 < stopb.toNat)

/-- Whether parity is enabled, `PMODE != 0` (42_write.md R122). -/
def parityEnabled (pmode : BitVec 2) : Bool := pmode != 0

/-- Where a slot's last pin write leads (42_write.md R139). -/
def afterSlot (pmode : BitVec 2) : Slot → WritePos
  | .start => .await (.bit 0)
  | .bit k =>
    if h : k.val + 1 < 8 then .await (.bit ⟨k.val + 1, h⟩)
    else if parityEnabled pmode then .await .par else .await .stop
  | .par => .await .stop
  | .stop => .t1

end Sys2Proof.Machine
end

