-- ==== Sys2Proof/Machine/Flags.lean ====
section
/-! DEFINITION. Bit counts, parity and the four level functions (42_write.md R121 to R124, R142). The block
has no arithmetic condition codes (10_state.md R23). -/

namespace Sys2Proof.Machine

/-- `popcount8(d)`: the number of 1 bits (00_scope.md section 6). -/
def popcount8 (d : Byte) : Nat := (List.range 8).countP fun k => d.getLsbD k

/-- The bit-count parity, `popcount8(d) mod 2`: true iff the number of set bits is odd (42_write.md R122). -/
def bitParity (d : Byte) : Bool := popcount8 d % 2 == 1

/-- The transmitted byte (42_write.md R121). -/
def txByte (inv : Bool) (d : Byte) : Byte := if inv then ~~~d else d

/-- The logical parity bit `P[i]` from `Q[i]` (42_write.md R123): EVEN gives `Q`, ODD its complement.
`PMODE` = 0 sends no parity bit, and 3 cannot be stored (10_state.md R24). -/
def parityBit (pmode : BitVec 2) (q : Bool) : Bool :=
  if pmode = 1 then q else if pmode = 2 then !q else Config.reservedParity q

/-- `ParLevel(i) = P[i] ^ (INV & PAR_FOLLOWS_INV)` (42_write.md R123). -/
def parLevel (c : Config) (inv : Bool) (pmode : BitVec 2) (q : Bool) : Level :=
  parityBit pmode q ^^ (inv && c.parFollowsInv)

/-- The start level `inv` (42_write.md R124). -/
def startLevel (inv : Bool) : Level := inv

/-- The idle and stop level `1 - inv` (42_write.md R124). -/
def idleLevel (inv : Bool) : Level := !inv

/-- The level of data bit k of a channel, `TXB[i][k]` (42_write.md R124, R128). -/
def dataLevel (txb : Byte) (k : Fin 8) : Level := txb.getLsbD k.val

end Sys2Proof.Machine
end

