-- ==== Sys2Proof/Machine/Ops.lean ====
section
/-! DEFINITION. The shared operations: port registers, pins, the timer's commands, the critical section,
admission and fault entry, completion, and how SEQ runs. -/

namespace Sys2Proof.Machine

/-- Read one port register; an unlisted one reads 0 (20_memory.md R41; notes/assumptions/7.md). -/
def PortFile.read : PortFile → Nat → Nat
  | [], _ => 0
  | (a, v) :: rest, p => if a = p then v else PortFile.read rest p

/-- Put a register in front of a file, unless its value is what an unlisted register reads. -/
def PortFile.cons (p v : Nat) (f : PortFile) : PortFile := if v = 0 then f else (p, v) :: f

/-- Write one port register, keeping the canonical form (20_memory.md R41). -/
def PortFile.write : PortFile → Nat → Nat → PortFile
  | [], p, v => PortFile.cons p v []
  | (a, w) :: rest, p, v =>
    if p < a then PortFile.cons p v ((a, w) :: rest)
    else if p = a then PortFile.cons p v rest
    else (a, w) :: PortFile.write rest p v

/-- The canonical form: indices strictly rising, no listed value 0. -/
def PortFile.wf (f : PortFile) : Bool :=
  decide (f.Pairwise fun x y => x.1 < y.1) && f.all fun x => x.2 != 0

/-- Set the bits of a mask: `v | m` (20_memory.md R42). -/
def setBits (v m : Nat) : Nat := v ||| m

/-- Clear the bits of a mask: `v & ~m` at any width (20_memory.md R42). -/
def clearBits (v m : Nat) : Nat := v ^^^ (v &&& m)

/-- Drive the bits of mask `m` in register `p` of a file to `b` (20_memory.md R42, R43). -/
def PortFile.drive (f : PortFile) (p m : Nat) (b : Bool) : PortFile :=
  f.write p (if b then setBits (f.read p) m else clearBits (f.read p) m)

/-- `PinWrite(i, b)`: one atomic access that changes the channel's latch (20_memory.md R42). -/
def State.pinWrite (s : State) (i : Fin 4) (b : Level) : State :=
  { s with portData := s.portData.drive (s.ch.get i).port (s.ch.get i).mask b }

/-- `PinMode(i, OUT)`: switch the channel's pin to output mode (20_memory.md R43). -/
def State.pinMode (s : State) (i : Fin 4) : State :=
  { s with portMode := s.portMode.drive (s.ch.get i).port (s.ch.get i).mask true }

/-- `TXD[i]`: the channel's output latch (10_state.md R16). -/
def State.txd (s : State) (i : Fin 4) : Level :=
  (s.portData.read (s.ch.get i).port &&& (s.ch.get i).mask) != 0

/-- `OE[i]`: whether the channel's pin is in output mode (10_state.md R16). -/
def State.oe (s : State) (i : Fin 4) : Bool :=
  (s.portMode.read (s.ch.get i).port &&& (s.ch.get i).mask) != 0

/-- What the outside sees of a line: `Z`, not driven by this block, or a level (10_state.md R16). -/
inductive Line where
  | z
  | level (b : Level)
deriving DecidableEq, Repr

/-- `LINE[i]` (10_state.md R16, 20_memory.md R44). -/
def State.line (s : State) (i : Fin 4) : Line := if s.oe i then .level (s.txd i) else .z

/-- The four lines. -/
def State.lines (s : State) : Lanes Line := .ofFn s.line

/-- The six assignments of CLK_CONFIGURE, as one micro-step (40_clock.md R81). -/
def Timer.configure (div cmp : BitVec 16) : Timer := ⟨true, div, cmp, 0, 0, false⟩

/-- `ClockStart()`: CLK_CONFIGURE's assignments with the fixed configuration (40_clock.md R90). -/
def State.clockStart (s : State) : State :=
  { s with timer := .configure s.cfg.divFixed s.cfg.cmpFixed }

/-- `T_RUN <- 0`; everything else of the timer keeps its value (40_clock.md R83). -/
def State.clockStop (s : State) : State := { s with timer := { s.timer with run := false } }

/-- `await tick`: enabled iff `T_OCF == 1`, effect `T_OCF <- 0` (40_clock.md R82); then on to `next`.
While it is disabled nothing changes (notes/assumptions/12.md). -/
def State.awaitTick (s : State) (next : Pos) : State :=
  if s.timer.ocf then { s with timer := { s.timer with ocf := false }, pos := next } else s

/-- Advance `POS` (10_state.md R19). -/
def State.goto (s : State) (next : Pos) : State := { s with pos := next }

/-- Step 3 of WRITE: enter the critical section (42_write.md R125). -/
def State.enterCritical (s : State) : State := { s with ieSaved := s.ie, ie := false }

/-- Step 9 of WRITE: leave the critical section (42_write.md R132). -/
def State.leaveCritical (s : State) : State := { s with ie := s.ieSaved }

/-- `complete()` (30_encoding.md R75). -/
def State.complete (s : State) : State := { s with busy := false, pos := .idle }

/-- `complete(v)` (30_encoding.md R75). -/
def State.completeWith (s : State) (v : BitVec 32) : State :=
  { s with busy := false, pos := .idle, res := v }

/-- The five fault codes (60_exceptions.md R161). -/
inductive FaultCode where
  | illegalCmd
  | notConstructed
  | alreadyConstructed
  | invalidPin
  | configUnset
deriving DecidableEq, Repr

/-- The value of `FAULT` for a code (60_exceptions.md R161). -/
def FaultCode.bits : FaultCode → BitVec 3
  | .illegalCmd => 1
  | .notConstructed => 2
  | .alreadyConstructed => 3
  | .invalidPin => 4
  | .configUnset => 5

/-- `raise Fault(code)`: fault entry (60_exceptions.md R163). `BUSY` stays 1, `CMD` keeps the word, `POS`
stays at `ADM`; no vector, no saved state, no mode. -/
def State.raiseFault (s : State) (c : FaultCode) : State :=
  if s.fault = 0 then { s with fault := c.bits } else s

/-- The only way out of a fault: the reset event `rst`, from any state (60_exceptions.md R164,
70_reset_and_hazards.md R190). The parameters, the host's actions to come and the schedule are not the
block's and stay (notes/assumptions/8.md). -/
def State.rst (s : State) : State := .afterReset s.cfg s.host s.sched

/-- The lifecycle check of the seven commands that need an instance (60_exceptions.md R162). -/
def needConstructed (s : State) : Option FaultCode :=
  if s.constructed then none else some .notConstructed

/-- The admission sequence `ADM`: the first check that fails, if any, in the order decode, lifecycle,
operands, configuration (60_exceptions.md R162). The decode check of a word that spells no command is
`illegalCommand`; here it is the reserved parity mode of BEGIN (30_encoding.md R67). -/
def admission (s : State) : Instr → Option FaultCode
  | .construct p0 p1 p2 p3 _ =>
    if s.constructed then some .alreadyConstructed
    else if pinsOk s.cfg ⟨p0, p1, p2, p3⟩ then none else some .invalidPin
  | .begin _ par _ => if par = 3 then some .illegalCmd else needConstructed s
  | .write .. =>
    if s.constructed then (if s.cfgSet then none else some .configUnset) else some .notConstructed
  | .read => needConstructed s
  | .available => needConstructed s
  | .flush => needConstructed s
  | .valid => needConstructed s
  | .destroy => needConstructed s
  | .clkConfigure .. => none
  | .clkAwait => none
  | .clkStop => none

/-- The micro-step at `ADM`: raise the fault of the first failing check, or go on to the body of the
command, whose first position is `first` (60_exceptions.md R162; notes/assumptions/13.md). -/
def State.admitOrFault (s : State) (i : Instr) (first : Pos) : State :=
  match admission s i with
  | some c => s.raiseFault c
  | none => s.goto first

/-- SEQ's micro-step on a word that spells no command: the fault `ILLEGAL_CMD`, raised at `ADM`
(30_encoding.md R69, 60_exceptions.md R162). -/
def State.illegalCommand (s : State) : State :=
  if s.pos = .adm then s.raiseFault .illegalCmd else s

/-- Whether a position is an `await tick`, the only kind of micro-step that can be disabled
(10_state.md R19, 42_write.md R139). -/
def Pos.isAwait : Pos → Bool
  | .write (.pre _) | .write (.await _) | .write .t1 | .write .t2 | .clkAwait => true
  | _ => false

/-- Whether SEQ has a step: a command is running, no fault, and not held at an `await tick`
(10_state.md R19, 40_clock.md R82, 60_exceptions.md R163). -/
def State.seqEnabled (s : State) : Bool :=
  s.busy && s.fault == 0 && s.pos != .idle && (!s.pos.isAwait || s.timer.ocf)

/-- Take SEQ's micro-steps `micro` one after the other until SEQ has no step of its own (20_memory.md
R51): the command completed, faulted, or stands at a disabled `await tick`. -/
def runSeq (micro : State → State) : Nat → State → State
  | 0, s => s
  | n + 1, s => if s.seqEnabled then runSeq micro n (micro s) else s

/-- More micro-steps than any command takes without waiting (the longest, CONSTRUCT, takes 18). -/
def seqFuel : Nat := 32

end Sys2Proof.Machine
end

