-- ==== Sys2Proof/Machine/Clock.lean ====
section
/-! DEFINITION. The Timer Clock Source (40_clock.md): CLK_CONFIGURE, CLK_AWAIT, CLK_STOP, and the steps of
the agent TMR. -/

namespace Sys2Proof.Machine

/-- One micro-step of CLK_CONFIGURE (40_clock.md R81). -/
def microClkConfigure (div cmp : BitVec 16) (s : State) : State :=
  match s.pos with
  | .adm => s.admitOrFault (.clkConfigure div cmp) .clkConfigure
  | .clkConfigure => { s with timer := .configure div cmp, pos := .done }
  | .done => s.complete
  | _ => s

/-- CLK_CONFIGURE (40_clock.md R81). -/
def execClkConfigure (div cmp : BitVec 16) (s : State) : Host.Outcome State Fault Refusal :=
  .next (runSeq (microClkConfigure div cmp) seqFuel s)

/-- One micro-step of CLK_AWAIT (40_clock.md R82). -/
def microClkAwait (s : State) : State :=
  match s.pos with
  | .adm => s.admitOrFault .clkAwait .clkAwait
  | .clkAwait => s.awaitTick .done
  | .done => s.complete
  | _ => s

/-- CLK_AWAIT (40_clock.md R82): it stays at its `await tick` while `T_OCF` is 0. -/
def execClkAwait (s : State) : Host.Outcome State Fault Refusal :=
  .next (runSeq microClkAwait seqFuel s)

/-- One micro-step of CLK_STOP (40_clock.md R83). -/
def microClkStop (s : State) : State :=
  match s.pos with
  | .adm => s.admitOrFault .clkStop .clkStop
  | .clkStop => s.clockStop.goto .done
  | .done => s.complete
  | _ => s

/-- CLK_STOP (40_clock.md R83). -/
def execClkStop (s : State) : Host.Outcome State Fault Refusal :=
  .next (runSeq microClkStop seqFuel s)

/-- Whether the counter tick that this clock makes is the match (40_clock.md R84). Compared as integers,
without wrap (R93). -/
def Timer.tickMatches (t : Timer) : Bool :=
  t.cmp != 0 && t.cnt.toNat + 1 == t.cmp.toNat

/-- Whether this `clk_t` clock makes a counter tick (40_clock.md R84). -/
def Timer.clkTicks (t : Timer) : Bool :=
  t.run && t.div != 0 && t.pre.toNat + 1 == t.div.toNat

/-- Whether this `clk_t` clock raises the match event (40_clock.md R84). -/
def Timer.clkMatches (t : Timer) : Bool := t.clkTicks && t.tickMatches

/-- TMR's step at one `clk_t` clock (40_clock.md R84). -/
def Timer.clk (t : Timer) : Timer :=
  if t.run then
    if t.div = 0 then t
    else if t.pre.toNat + 1 = t.div.toNat then
      if t.tickMatches then { t with pre := 0, cnt := 0, ocf := true }
      else { t with pre := 0, cnt := t.cnt + 1 }
    else { t with pre := t.pre + 1 }
  else t

/-- Whether the match event can come: Running, with nonzero divider and compare value (40_clock.md R85,
R86). -/
def Timer.canMatch (t : Timer) : Bool := t.run && t.div != 0 && t.cmp != 0

/-- The match event: `T_OCF <- 1` (40_clock.md R85), with the phase that R84 has at a match
(notes/assumptions/9.md). -/
def Timer.matchEvent (t : Timer) : Timer := { t with pre := 0, cnt := 0, ocf := true }

/-- Whether a word is a WRITE (20_memory.md R52). -/
def isWrite (w : CmdWord) : Bool :=
  match decode w with
  | .ok (.write ..) => true
  | _ => false

/-- The slot law (20_memory.md R52): no match event while a WRITE runs and SEQ's next micro-step is not
an `await tick`. A faulted WRITE has no next micro-step (notes/assumptions/10.md). -/
def State.slotOpen (s : State) : Bool :=
  !(s.busy && s.fault == 0 && isWrite s.cmd && !s.pos.isAwait)

/-- Whether TMR has the match event as a step (40_clock.md R85, 20_memory.md R52). -/
def State.matchEnabled (s : State) : Bool := s.timer.canMatch && s.slotOpen

/-- TMR's turn: one `clk_t` clock. A clock that would raise a match against the slot law has no step. -/
def State.tmrClk (s : State) : State :=
  if s.timer.clkMatches && !s.slotOpen then s else { s with timer := s.timer.clk }

/-- TMR's turn: the match event. -/
def State.tmrMatch (s : State) : State :=
  if s.matchEnabled then { s with timer := s.timer.matchEvent } else s

end Sys2Proof.Machine
end

