-- ==== Sys2Proof/Machine/Lifecycle.lean ====
section
/-! DEFINITION. CONSTRUCT, BEGIN, DESTROY (41_lifecycle.md). -/

namespace Sys2Proof.Machine

/-- One micro-step of CONSTRUCT, one line of its pseudocode (41_lifecycle.md R101): the records, the
polarity, then per channel the latch before the mode (R102), the clock, the flags. -/
def microConstruct (p0 p1 p2 p3 : PinId) (inv : Bool) (s : State) : State :=
  match s.pos with
  | .adm => s.admitOrFault (.construct p0 p1 p2 p3 inv) (.construct (.bind 0))
  | .construct (.bind i) =>
    { s with
      ch := s.ch.set i (channelOf s.cfg (Lanes.get ⟨p0, p1, p2, p3⟩ i))
      pos := match nextLane i with
        | some j => .construct (.bind j)
        | none => .construct .polarity }
  | .construct .polarity => { s with inv := inv, pos := .construct (.drive 0) }
  | .construct (.drive i) => (s.pinWrite i (idleLevel s.inv)).goto (.construct (.mode i))
  | .construct (.mode i) =>
    (s.pinMode i).goto (match nextLane i with
      | some j => .construct (.drive j)
      | none => .construct .clockStart)
  | .construct .clockStart => s.clockStart.goto (.construct .clearCfgSet)
  | .construct .clearCfgSet => { s with cfgSet := false, pos := .construct .setConstructed }
  | .construct .setConstructed => { s with constructed := true, pos := .done }
  | .done => s.complete
  | _ => s

/-- CONSTRUCT (41_lifecycle.md R101). -/
def execConstruct (p0 p1 p2 p3 : PinId) (inv : Bool) (s : State) : Host.Outcome State Fault Refusal :=
  .next (runSeq (microConstruct p0 p1 p2 p3 inv) seqFuel s)

/-- One micro-step of BEGIN (41_lifecycle.md R104). The rate is read by nothing (R105). -/
def microBegin (rate : BitVec 32) (par : BitVec 2) (stop : BitVec 6) (s : State) : State :=
  match s.pos with
  | .adm => s.admitOrFault (.begin rate par stop) (.begin .storeParity)
  | .begin .storeParity => { s with pmode := par, pos := .begin .storeStop }
  | .begin .storeStop => { s with stopb := stop, pos := .begin .setCfgSet }
  | .begin .setCfgSet => { s with cfgSet := true, pos := .begin .clockStart }
  | .begin .clockStart => s.clockStart.goto .done
  | .done => s.complete
  | _ => s

/-- BEGIN (41_lifecycle.md R104). -/
def execBegin (rate : BitVec 32) (par : BitVec 2) (stop : BitVec 6) (s : State) :
    Host.Outcome State Fault Refusal :=
  .next (runSeq (microBegin rate par stop) seqFuel s)

/-- One micro-step of DESTROY (41_lifecycle.md R107). The pins are not touched (R205). -/
def microDestroy (s : State) : State :=
  match s.pos with
  | .adm => s.admitOrFault .destroy (.destroy .stopClock)
  | .destroy .stopClock => s.clockStop.goto (.destroy .clearCfgSet)
  | .destroy .clearCfgSet => { s with cfgSet := false, pos := .destroy .clearConstructed }
  | .destroy .clearConstructed => { s with constructed := false, pos := .done }
  | .done => s.complete
  | _ => s

/-- DESTROY (41_lifecycle.md R107). -/
def execDestroy (s : State) : Host.Outcome State Fault Refusal :=
  .next (runSeq microDestroy seqFuel s)

end Sys2Proof.Machine
end

