-- ==== Sys2Proof/Machine/Stream.lean ====
section
/-! DEFINITION. The stream stubs READ, AVAILABLE, FLUSH, VALID (43_stream.md). -/

namespace Sys2Proof.Machine

/-- One micro-step of READ: `complete(-1)` (43_stream.md R150). -/
def microRead (s : State) : State :=
  match s.pos with
  | .adm => s.admitOrFault .read .done
  | .done => s.completeWith Config.resNoData
  | _ => s

/-- READ (43_stream.md R150). -/
def execRead (s : State) : Host.Outcome State Fault Refusal := .next (runSeq microRead seqFuel s)

/-- One micro-step of AVAILABLE: `complete(-1)` (43_stream.md R151). -/
def microAvailable (s : State) : State :=
  match s.pos with
  | .adm => s.admitOrFault .available .done
  | .done => s.completeWith Config.resNoData
  | _ => s

/-- AVAILABLE (43_stream.md R151). -/
def execAvailable (s : State) : Host.Outcome State Fault Refusal :=
  .next (runSeq microAvailable seqFuel s)

/-- One micro-step of FLUSH: `complete()` (43_stream.md R152). -/
def microFlush (s : State) : State :=
  match s.pos with
  | .adm => s.admitOrFault .flush .done
  | .done => s.complete
  | _ => s

/-- FLUSH (43_stream.md R152). -/
def execFlush (s : State) : Host.Outcome State Fault Refusal := .next (runSeq microFlush seqFuel s)

/-- One micro-step of VALID: `complete(1)` (43_stream.md R153). -/
def microValid (s : State) : State :=
  match s.pos with
  | .adm => s.admitOrFault .valid .done
  | .done => s.completeWith Config.resTrue
  | _ => s

/-- VALID (43_stream.md R153). -/
def execValid (s : State) : Host.Outcome State Fault Refusal := .next (runSeq microValid seqFuel s)

end Sys2Proof.Machine
end

