-- ==== Sys2Proof/Machine/Write.lean ====
section
/-! DEFINITION. The frame engine: WRITE (42_write.md). -/

namespace Sys2Proof.Machine

/-- The level that slot `slot` drives on channel `i` (42_write.md R124, R127 to R130). -/
def State.slotLevel (s : State) (slot : Slot) (i : Fin 4) : Level :=
  match slot with
  | .start => startLevel s.inv
  | .bit k => dataLevel (s.txb.get i) k
  | .par => parLevel s.cfg s.inv s.pmode (s.q.get i)
  | .stop => idleLevel s.inv

/-- Whether the slot's loop reaches channel `i`: the data loop is bounded by `LOOP_NCH` (42_write.md
R128). -/
def slotReaches (slot : Slot) (i : Fin 4) : Bool :=
  match slot with
  | .bit _ => decide (i.val < Config.loopNch)
  | .start | .par | .stop => true

/-- `X.DRVi`: the slot's pin write on channel `i` (42_write.md R126). -/
def State.drvSlot (s : State) (slot : Slot) (i : Fin 4) : State :=
  if slotReaches slot i then s.pinWrite i (s.slotLevel slot i) else s

/-- Where `COUNT` or, without parity, `LATCH` leads (42_write.md R139). -/
def afterLatch (pmode : BitVec 2) : WritePos := if parityEnabled pmode then .count 0 else .enter

/-- Where `ENTER` leads: `PRE` if `PRE_SYNC > 0`, else `START` (42_write.md R139, R140). -/
def afterEnter (c : Config) : WritePos :=
  match c.preSync with
  | 0 => .await .start
  | n + 1 => .pre n

/-- One micro-step of WRITE (42_write.md R120, R139). -/
def microWrite (d0 d1 d2 d3 : Byte) (s : State) : State :=
  match s.pos with
  | .adm => s.admitOrFault (.write d0 d1 d2 d3) (.write (.latch 0))
  | .write (.latch i) =>
    { s with
      txb := s.txb.set i (txByte s.inv (Lanes.get ⟨d0, d1, d2, d3⟩ i))
      pos := match nextLane i with
        | some j => .write (.latch j)
        | none => .write (afterLatch s.pmode) }
  | .write (.count i) =>
    { s with
      q := s.q.set i (bitParity (s.txb.get i))
      pos := match nextLane i with
        | some j => .write (.count j)
        | none => .write .enter }
  | .write .enter => s.enterCritical.goto (.write (afterEnter s.cfg))
  | .write (.pre left) =>
    s.awaitTick (match left with
      | 0 => .write (.await .start)
      | n + 1 => .write (.pre n))
  | .write (.await slot) => s.awaitTick (.write (.drv slot 0))
  | .write (.drv slot i) =>
    (s.drvSlot slot i).goto (match nextLane i with
      | some j => .write (.drv slot j)
      | none => .write (afterSlot s.pmode slot))
  | .write .t1 => s.awaitTick (if twoStops s.stopb then .write .t2 else .write .leave)
  | .write .t2 => s.awaitTick (.write .leave)
  | .write .leave => s.leaveCritical.goto .done
  | .done => s.completeWith Config.resOk
  | _ => s

/-- WRITE (42_write.md R120): SEQ's micro-steps up to the next `await tick` whose flag is clear, or to
completion. -/
def execWrite (d0 d1 d2 d3 : Byte) (s : State) : Host.Outcome State Fault Refusal :=
  .next (runSeq (microWrite d0 d1 d2 d3) seqFuel s)

end Sys2Proof.Machine
end

