-- ==== Sys2Proof/Machine/Dispatch.lean ====
section
/-! DEFINITION. Which meaning each command has. -/

namespace Sys2Proof.Machine

def exec (i : Instr) (s : State) : Host.Outcome State Fault Refusal :=
  match i with
  | .construct p0 p1 p2 p3 inv => Sys2Proof.Machine.execConstruct p0 p1 p2 p3 inv s
  | .begin rate par stop => Sys2Proof.Machine.execBegin rate par stop s
  | .write d0 d1 d2 d3 => Sys2Proof.Machine.execWrite d0 d1 d2 d3 s
  | .read => Sys2Proof.Machine.execRead s
  | .available => Sys2Proof.Machine.execAvailable s
  | .flush => Sys2Proof.Machine.execFlush s
  | .valid => Sys2Proof.Machine.execValid s
  | .destroy => Sys2Proof.Machine.execDestroy s
  | .clkConfigure div cmp => Sys2Proof.Machine.execClkConfigure div cmp s
  | .clkAwait => Sys2Proof.Machine.execClkAwait s
  | .clkStop => Sys2Proof.Machine.execClkStop s

end Sys2Proof.Machine
end

