-- ==== Sys2Proof/Machine/Agents.lean ====
section
/-! DEFINITION. The turns of the agents HOST, SEQ, ENV, of the platform and of reset (00_scope.md R6,
20_memory.md R59), and whose turn it is when nothing is scheduled. -/

namespace Sys2Proof.Machine

/-- Whether the command port is open and the host has a step (30_encoding.md R74, 10_state.md R31a). -/
def State.hostEnabled (s : State) : Bool := !s.busy && s.fault == 0

/-- Acceptance of a command word (30_encoding.md R74). -/
def State.accept (s : State) (w : CmdWord) : State :=
  { s with cmd := w, busy := true, pos := .adm }

/-- HOST's turn: its next action, if it has a step (20_memory.md R59). A blocked host keeps its action. -/
def State.hostTurn (s : State) : State :=
  if s.hostEnabled then
    match s.host with
    | [] => s
    | .command w :: rest => { s.accept w with host := rest }
    | .setIe b :: rest => { s with ie := b, host := rest }
  else s

/-- One micro-step of the command, at `POS`. -/
def micro (i : Instr) (s : State) : State :=
  match i with
  | .construct p0 p1 p2 p3 inv => microConstruct p0 p1 p2 p3 inv s
  | .begin rate par stop => microBegin rate par stop s
  | .write d0 d1 d2 d3 => microWrite d0 d1 d2 d3 s
  | .read => microRead s
  | .available => microAvailable s
  | .flush => microFlush s
  | .valid => microValid s
  | .destroy => microDestroy s
  | .clkConfigure div cmp => microClkConfigure div cmp s
  | .clkAwait => microClkAwait s
  | .clkStop => microClkStop s

/-- SEQ's turn: run the command in `CMD` as far as SEQ goes alone; a word that spells no command faults
(30_encoding.md R69). A SEQ that has no step changes nothing. -/
def State.seqTurn (s : State) : Host.Outcome State Fault Refusal :=
  if s.seqEnabled then
    match decode s.cmd with
    | .ok i => exec i s
    | .error _ => .next s.illegalCommand
  else .next s

/-- SEQ's turn: one micro-step of the command in `CMD`. -/
def State.microTurn (s : State) : State :=
  if s.seqEnabled then
    match decode s.cmd with
    | .ok i => micro i s
    | .error _ => s.illegalCommand
  else s

/-- Whether channel `i` is bound: an instance exists, or the running CONSTRUCT has written its record
(10_state.md R12, 41_lifecycle.md R101; notes/assumptions/16.md). -/
def State.bound (s : State) (i : Fin 4) : Bool :=
  s.constructed || match s.pos with
    | .construct (.bind j) => decide (i.val < j.val)
    | .construct _ => true
    | _ => false

/-- Whether a port bit is one of the channel bits that ENV and the platform never write (20_memory.md
R59). -/
def State.isChannelBit (s : State) (port bit : Nat) : Bool :=
  let own (i : Fin 4) : Bool := s.bound i && (s.ch.get i).port == port && (s.ch.get i).mask.testBit bit
  own 0 || own 1 || own 2 || own 3

/-- A change of one port bit that exists and is no channel bit (20_memory.md R59). -/
def State.portAct (s : State) (a : PortAct) : Host.Outcome State Fault Refusal :=
  if a.port < s.cfg.nport ∧ a.bit < s.cfg.portW then
    if s.isChannelBit a.port a.bit then .refused .channelBitDuty
    else match a.reg with
      | .data => .next { s with portData := s.portData.drive a.port (2 ^ a.bit) a.value }
      | .mode => .next { s with portMode := s.portMode.drive a.port (2 ^ a.bit) a.value }
  else .fault .noSuchPort

/-- ENV's turn: it has a step iff `IE` = 1 (60_exceptions.md R166). -/
def State.envTurn (s : State) (a : PortAct) : Host.Outcome State Fault Refusal :=
  if s.ie then s.portAct a else .next s

/-- The turn taken when nothing is scheduled (notes/assumptions/2.md): SEQ if it has a step; else HOST if
it has an action and a step; else the match event that SEQ waits for; else one `clk_t` clock. -/
def State.defaultTurn (s : State) : Turn :=
  if s.seqEnabled then .seq
  else if s.hostEnabled && !s.host.isEmpty then .host
  else if s.busy && s.fault == 0 && s.matchEnabled then .matchEvent
  else .clk

/-- One turn. -/
def State.turn (s : State) (t : Turn) : Host.Outcome State Fault Refusal :=
  match t with
  | .host => .next s.hostTurn
  | .seq => s.seqTurn
  | .micro => .next s.microTurn
  | .clk => .next s.tmrClk
  | .matchEvent => .next s.tmrMatch
  | .env a => s.envTurn a
  | .platform a => s.portAct a
  | .rst => .next s.rst

/-- Put a command word where SEQ's next turn runs it: accepted, as 30_encoding.md R74 accepts it, with
no fault pending and nothing else scheduled. -/
def State.present (s : State) (w : CmdWord) : State :=
  { s.accept w with fault := 0, sched := [] }

end Sys2Proof.Machine
end

