-- ==== Sys2Proof/Machine/Step.lean ====
section
/-! DEFINITION. One step of the machine: the turn that the schedule names, or the default turn. -/

namespace Sys2Proof.Machine

/-- The turn that the next step takes. -/
def State.nextTurn (s : State) : Turn :=
  match s.sched with
  | [] => s.defaultTurn
  | t :: _ => t

/-- One step: the next turn, taken off the schedule if it stands there. -/
def step (s : State) : Host.Outcome State Fault Refusal :=
  State.turn { s with sched := s.sched.tail } s.nextTurn

/-- `s` with the word accepted, so that the very next step is SEQ's turn on it (notes/assumptions/22.md). -/
def State.withFetchWord (s : State) (nbits w : Nat) : State :=
  s.present (BitVec.ofNat 48 (w % 2 ^ nbits))

end Sys2Proof.Machine
end

