-- ==== Sys2Proof/Safety.lean ====
section
/-! DEFINITION. What the claims are about: the ways of not going on (60_exceptions.md R168, R175), the
frame on the wire (42_write.md R135, R136), the order of WRITE's micro-steps (R139), the reference observer,
and the invariant of 10_state.md R31. -/

namespace Sys2Proof.Machine

/-! ## Ways of not going on -/

/-- A faulted block (60_exceptions.md R168). -/
def State.faulted (s : State) : Bool := s.fault != 0

/-- SEQ stands at an `await tick` with the flag clear (60_exceptions.md R168). -/
def State.waiting (s : State) : Bool := s.busy && s.fault == 0 && s.pos.isAwait && !s.timer.ocf

/-- A hold: a step of TMR lifts it (60_exceptions.md R168). -/
def State.held (s : State) : Bool := s.waiting && s.matchEnabled

/-- A hang: nothing but reset ends it (60_exceptions.md R168). -/
def State.hung (s : State) : Bool := s.waiting && !s.matchEnabled

/-- Whether the host has a command left to issue. -/
def State.hasCommand (s : State) : Bool :=
  s.host.any fun a => match a with
    | .command _ => true
    | .setIe _ => false

/-- A quiescent state (60_exceptions.md R175). -/
def State.quiescent (s : State) : Bool := (!s.busy && !s.hasCommand) || s.faulted || s.hung

/-- A final state (60_exceptions.md R175). -/
def State.final (s : State) : Bool := s.quiescent && !s.busy && !s.faulted

/-! ## Where a command stands -/

/-- A command was accepted and SEQ stands at its admission sequence (30_encoding.md R74, 60_exceptions.md
R162). -/
structure State.Accepted (s : State) : Prop where
  busy : s.busy = true
  pos : s.pos = .adm
  fault : s.fault = 0

/-- The next step is SEQ's, and the command it runs is one of those named. -/
def State.runsOneOf (s : State) (names : List String) : Prop :=
  (s.nextTurn = .seq ∨ s.nextTurn = .micro) ∧ s.seqEnabled = true ∧
    ∃ i, decode s.cmd = .ok i ∧ i.mnemonic ∈ names

/-- Port bit `bit` of port `port` belongs to channel `i`. -/
def State.ownsBit (s : State) (i : Fin 4) (port bit : Nat) : Prop :=
  (s.ch.get i).port = port ∧ (s.ch.get i).mask.testBit bit = true

/-- The first `await tick` of a WRITE (42_write.md R139, R140). -/
def firstWait (c : Config) : WritePos := if c.preSync = 0 then .await .start else .pre (c.preSync - 1)

/-- The number of `await tick` micro-steps of a WRITE (42_write.md R134). -/
def waits (c : Config) (pmode : BitVec 2) (stopb : BitVec 6) : Nat :=
  c.preSync + 11 + (parityEnabled pmode).toNat + (twoStops stopb).toNat

/-! ## The frame on the wire -/

/-- The same level on the four lines. -/
def allLanes (b : Level) : Lanes Level := ⟨b, b, b, b⟩

/-- `Cells(data, inv, pmode, stopb)` (42_write.md R135): one vector of levels per cell. The parity is
counted over the data byte itself (R122 says the count of the transmitted byte has the same parity). -/
def cells (c : Config) (data : Lanes Byte) (inv : Bool) (pmode : BitVec 2) (stopb : BitVec 6) :
    List (Lanes Level) :=
  [allLanes (startLevel inv)] ++
  (List.range 8).map (fun k => .ofFn fun i => (data.get i).getLsbD k ^^ inv) ++
  (if parityEnabled pmode then [.ofFn fun i => parLevel c inv pmode (bitParity (data.get i))] else []) ++
  [allLanes (idleLevel inv)] ++
  (if twoStops stopb then [allLanes (idleLevel inv)] else [])

/-- Column i of a list of cells in the effective sense: the levels of line i, complemented under inverted
polarity (42_write.md R136). -/
def effective (inv : Bool) (cs : List (Lanes Level)) (i : Fin 4) : List Bool :=
  cs.map fun v => v.get i ^^ inv

/-- The byte of eight bits, least significant first: the sum over k of `e_k × 2^k` (42_write.md R136). -/
def byteOfBits : List Bool → Nat
  | [] => 0
  | b :: bs => b.toNat + 2 * byteOfBits bs

/-! ## The micro-steps of WRITE in order -/

/-- A slot with pin writes: its `await tick` and four pin writes (42_write.md R126, R139). -/
def slotSteps (slot : Slot) : List WritePos :=
  [.await slot, .drv slot 0, .drv slot 1, .drv slot 2, .drv slot 3]

/-- The `await tick` micro-steps of the pre-synchronisation (42_write.md R139, R140). -/
def preSteps : Nat → List WritePos
  | 0 => []
  | n + 1 => .pre n :: preSteps n

/-- The positions of SEQ inside WRITE, in order, from `LATCH` to `LEAVE` (42_write.md R139). -/
def writeSteps (c : Config) (pmode : BitVec 2) (stopb : BitVec 6) : List WritePos :=
  [.latch 0, .latch 1, .latch 2, .latch 3] ++
  (if parityEnabled pmode then [.count 0, .count 1, .count 2, .count 3] else []) ++
  [.enter] ++ preSteps c.preSync ++ slotSteps .start ++
  (List.finRange 8).flatMap (fun k => slotSteps (.bit k)) ++
  (if parityEnabled pmode then slotSteps .par else []) ++
  slotSteps .stop ++ [.t1] ++ (if twoStops stopb then [.t2] else []) ++ [.leave]

/-- Whether a micro-step of WRITE writes a pin. -/
def WritePos.writesPin : WritePos → Bool
  | .drv _ _ => true
  | _ => false

/-- Whether a position of WRITE lies between steps 3 and 9, with the interrupts off (42_write.md R125,
R132; 10_state.md R31e). -/
def WritePos.critical : WritePos → Bool
  | .latch _ | .count _ | .enter => false
  | .pre _ | .await _ | .drv _ _ | .t1 | .t2 | .leave => true

/-- Whether SEQ at this position stands inside the critical section of a WRITE. -/
def Pos.critical : Pos → Bool
  | .write p => p.critical
  | _ => false

/-- When a position of WRITE is taken (42_write.md R139, column "taken iff"). -/
def WritePos.taken (c : Config) (pmode : BitVec 2) (stopb : BitVec 6) : WritePos → Bool
  | .count _ | .await .par | .drv .par _ => parityEnabled pmode
  | .pre n => decide (n < c.preSync)
  | .t2 => twoStops stopb
  | .latch _ | .enter | .await .start | .await (.bit _) | .await .stop => true
  | .drv .start _ | .drv (.bit _) _ | .drv .stop _ | .t1 | .leave => true

/-! ## The reference observer -/

/-- Whether the next step of the machine is a match event (40_clock.md R84, R85). -/
def State.nextIsMatch (s : State) : Bool :=
  match s.nextTurn with
  | .matchEvent => s.matchEnabled
  | .clk => s.timer.clkMatches && s.slotOpen
  | _ => false

/-- The samples of the reference observer over the next `n` steps: the four lines at every match event,
before the pin writes that follow it (42_write.md R135). -/
def samples : Nat → State → List (Lanes Line)
  | 0, _ => []
  | n + 1, s =>
    (if s.nextIsMatch then [s.lines] else []) ++
    match step s with
    | .next t => samples n t
    | .fault _ => []
    | .refused _ => []

/-! ## Positions and commands -/

/-- Whether a position belongs to the micro-step list of a command that is running (10_state.md R19). -/
def Pos.fits : Pos → Instr → Bool
  | .adm, _ => true
  | .done, _ => true
  | .construct _, .construct .. => true
  | .begin _, .begin .. => true
  | .write _, .write .. => true
  | .destroy _, .destroy => true
  | .clkConfigure, .clkConfigure .. => true
  | .clkAwait, .clkAwait => true
  | .clkStop, .clkStop => true
  | _, _ => false

/-! ## The invariant -/

/-- Which channel records CONSTRUCT has written before position `p` (41_lifecycle.md R101). -/
def ConstructPos.recordWritten : ConstructPos → Fin 4 → Bool
  | .bind j, i => decide (i.val < j.val)
  | _, _ => true

/-- Whether CONSTRUCT has written `INV` before position `p`. -/
def ConstructPos.polarityWritten : ConstructPos → Bool
  | .bind _ | .polarity => false
  | _ => true

/-- Channel `i` is bound to a pin: an instance exists, or the running CONSTRUCT has written the record
(41_lifecycle.md R101; notes/assumptions/16.md). -/
def State.hasChannel (s : State) (i : Fin 4) : Prop :=
  s.constructed = true ∨ ∃ p, s.pos = .construct p ∧ p.recordWritten i = true

/-- Which latches CONSTRUCT has driven before position `p`. -/
def ConstructPos.latchDriven : ConstructPos → Fin 4 → Bool
  | .bind _, _ | .polarity, _ => false
  | .drive j, i => decide (i.val < j.val)
  | .mode j, i => decide (i.val ≤ j.val)
  | _, _ => true

/-- Which pins CONSTRUCT has switched to output mode before position `p`. -/
def ConstructPos.modeSwitched : ConstructPos → Fin 4 → Bool
  | .bind _, _ | .polarity, _ => false
  | .drive j, i => decide (i.val < j.val)
  | .mode j, i => decide (i.val < j.val)
  | _, _ => true

/-- Whether line `i` rests at the idle level when SEQ stands at this position: everywhere but inside a
frame, from the start bit of its channel to its stop bit (10_state.md R31c, 42_write.md R130). -/
def Pos.lineRests : Pos → Fin 4 → Bool
  | .write (.drv .start j), i => decide (j.val ≤ i.val)
  | .write (.drv .stop j), i => decide (i.val < j.val)
  | .write (.drv (.bit _) _), _ | .write (.drv .par _), _ => false
  | .write (.await (.bit _)), _ | .write (.await .par), _ | .write (.await .stop), _ => false
  | _, _ => true

/-- A file of port registers in canonical form, with registers and bits that exist (20_memory.md R40). -/
def PortFile.inRange (c : Config) (f : PortFile) : Bool :=
  f.wf && f.all fun x => decide (x.1 < c.nport) && decide (x.2 < 2 ^ c.portW)

/-- The invariant of 10_state.md R31, with what its preservation needs inside a running command. -/
structure State.Inv (s : State) : Prop where
  /-- The parameters are as the spec requires. -/
  cfgOk : s.cfg.ok = true
  /-- The port files are canonical and within the port space. -/
  dataOk : s.portData.inRange s.cfg = true
  modeOk : s.portMode.inRange s.cfg = true
  /-- `BUSY` is 1 exactly while SEQ is not idle (R18, R19). -/
  busyPos : s.busy = true ↔ s.pos ≠ .idle
  /-- A fault stands at `ADM`, with a code of R161 (R163). -/
  faultPos : s.fault ≠ 0 → s.pos = .adm ∧ s.fault.toNat ≤ 5
  /-- R31b, the counter. -/
  cntBound : s.timer.run = true → s.timer.cmp ≠ 0 → s.timer.cnt.toNat < s.timer.cmp.toNat
  /-- R31b, the prescaler phase. -/
  preBound : s.timer.run = true → s.timer.div ≠ 0 → s.timer.pre.toNat < s.timer.div.toNat
  /-- R31c: the four pins are valid and pairwise distinct. -/
  pinsValid : s.constructed = true →
    pinsOk s.cfg (.ofFn fun i => (s.ch.get i).pin) = true
  /-- R12: the records are those of their pins. -/
  records : s.constructed = true → ∀ i, channelOf s.cfg (s.ch.get i).pin = s.ch.get i
  /-- R31c: every pin is in output mode. -/
  outputs : s.constructed = true → ∀ i, s.oe i = true
  /-- R31c: every line rests at the idle level outside a frame. -/
  rests : s.constructed = true → ∀ i, s.pos.lineRests i = true → s.txd i = idleLevel s.inv
  /-- R31d -/
  config : s.cfgSet = true → s.constructed = true ∧ s.pmode ≠ 3
  /-- R31e -/
  critical : s.pos.critical = true → s.ie = false
  /-- A WRITE past its admission has an instance and a configuration (R162). -/
  writing : ∀ p, s.pos = .write p → s.constructed = true ∧ s.cfgSet = true
  /-- SEQ is only at positions of WRITE that are taken (R139). -/
  taken : ∀ p, s.pos = .write p → p.taken s.cfg s.pmode s.stopb = true
  /-- A BEGIN past its admission has an instance, and stores no reserved parity mode (R104). -/
  beginning : ∀ p, s.pos = .begin p → s.constructed = true ∧ (p = .storeParity ∨ s.pmode ≠ 3)
  /-- DESTROY clears `CFG_SET` before `CONSTRUCTED` (R107). -/
  destroying : s.pos = .destroy .clearConstructed → s.cfgSet = false
  /-- What CONSTRUCT has done at each of its positions (R101, R102). -/
  constructing : ∀ p, s.pos = .construct p → s.constructed = false ∧
    ∃ p0 p1 p2 p3 inv, decode s.cmd = .ok (.construct p0 p1 p2 p3 inv) ∧
      pinsOk s.cfg ⟨p0, p1, p2, p3⟩ = true ∧
      (∀ i, p.recordWritten i = true → s.ch.get i = channelOf s.cfg (Lanes.get ⟨p0, p1, p2, p3⟩ i)) ∧
      (p.polarityWritten = true → s.inv = inv) ∧
      (∀ i, p.latchDriven i = true → s.txd i = idleLevel inv) ∧
      (∀ i, p.modeSwitched i = true → s.oe i = true)

/-! ## Elements that hold a value

10_state.md R10 gives each element a guard: where it fails the element holds no value "and no rule reads it".
Inside CONSTRUCT, BEGIN and WRITE the element has its value from the micro-step that writes it. -/

/-- Which `TXB[i]` a WRITE has written before position `p` (42_write.md R121, R139). -/
def WritePos.txbWritten : WritePos → Fin 4 → Bool
  | .latch j, i => decide (i.val < j.val)
  | _, _ => true

/-- Which `Q[i]` a WRITE with parity has written before position `p` (42_write.md R122, R139). -/
def WritePos.qWritten : WritePos → Fin 4 → Bool
  | .latch _, _ => false
  | .count j, i => decide (i.val < j.val)
  | _, _ => true

/-- Whether BEGIN has written `PMODE` before position `p` (41_lifecycle.md R104). -/
def BeginPos.parityWritten : BeginPos → Bool
  | .storeParity => false
  | .storeStop | .setCfgSet | .clockStart => true

/-- Whether BEGIN has written `STOPB` before position `p` (41_lifecycle.md R104). -/
def BeginPos.stopWritten : BeginPos → Bool
  | .storeParity | .storeStop => false
  | .setCfgSet | .clockStart => true

/-- `INV` holds a value (10_state.md R10). -/
def State.hasInv (s : State) : Bool :=
  s.constructed || match s.pos with
    | .construct p => p.polarityWritten
    | _ => false

/-- `PMODE` holds a value (10_state.md R10). -/
def State.hasParity (s : State) : Bool :=
  s.cfgSet || match s.pos with
    | .begin p => p.parityWritten
    | _ => false

/-- `STOPB` holds a value (10_state.md R10). -/
def State.hasStop (s : State) : Bool :=
  s.cfgSet || match s.pos with
    | .begin p => p.stopWritten
    | _ => false

/-- `TXB[i]` holds a value (10_state.md R10). -/
def State.hasTxb (s : State) (i : Fin 4) : Bool :=
  match s.pos with
  | .write p => p.txbWritten i
  | _ => false

/-- `Q[i]` holds a value (10_state.md R10). -/
def State.hasQ (s : State) (i : Fin 4) : Bool :=
  match s.pos with
  | .write p => p.qWritten i && parityEnabled s.pmode
  | _ => false

/-- An instance, or the running CONSTRUCT, has driven the latch of channel `i` (41_lifecycle.md R101). Every
other bit of `PORTDATA` is the platform's, or has no value since reset (10_state.md R30). -/
def State.hasLatch (s : State) (i : Fin 4) : Bool :=
  s.constructed || match s.pos with
    | .construct p => p.latchDriven i
    | _ => false

/-- Two states that agree on every element that holds a value (10_state.md R10); the others may differ, and
so may `RES`, which no step reads, and the port data bits that are no driven latch. -/
structure State.SameValues (s t : State) : Prop where
  constructed : t.constructed = s.constructed
  ch : ∀ i, s.bound i = true → t.ch.get i = s.ch.get i
  inv : s.hasInv = true → t.inv = s.inv
  pmode : s.hasParity = true → t.pmode = s.pmode
  stopb : s.hasStop = true → t.stopb = s.stopb
  cfgSet : t.cfgSet = s.cfgSet
  run : t.timer.run = s.timer.run
  ocf : t.timer.ocf = s.timer.ocf
  timer : s.timer.run = true → t.timer = s.timer
  latch : ∀ i, s.hasLatch i = true → t.txd i = s.txd i
  portMode : t.portMode = s.portMode
  txb : ∀ i, s.hasTxb i = true → t.txb.get i = s.txb.get i
  q : ∀ i, s.hasQ i = true → t.q.get i = s.q.get i
  busy : t.busy = s.busy
  cmd : s.busy = true → t.cmd = s.cmd
  pos : t.pos = s.pos
  ie : t.ie = s.ie
  ieSaved : s.pos.critical = true → t.ieSaved = s.ieSaved
  fault : t.fault = s.fault
  cfg : t.cfg = s.cfg
  host : t.host = s.host
  sched : t.sched = s.sched

/-- A step from `s` to `s'` and one from `t` to `t'` write the same value to an element that `f` reads, or
leave it alone in both. -/
def SameChange {α : Type} (f : State → α) (s t s' t' : State) : Prop :=
  f t' = f s' ∨ (f s' = f s ∧ f t' = f t)

/-- Two outcomes, of a step from `s` and of one from `t`, alike: the same stop, or next states that agree on
every element that holds a value, with `RES` and every port data bit changed alike. -/
def SameOutcome (s t : State) (a b : Host.Outcome State Fault Refusal) : Prop :=
  match a, b with
  | .next s', .next t' =>
    s'.SameValues t' ∧ SameChange State.res s t s' t' ∧
    ∀ port bit, SameChange (fun u => (u.portData.read port).testBit bit) s t s' t'
  | .fault x, .fault y => x = y
  | .refused x, .refused y => x = y
  | _, _ => False

end Sys2Proof.Machine
end

