-- ==== Sys2Proof/Certificates/Slice0/Obligations.lean ====
section
/-! DEFINITION. The statements for the provers, each from numbered rules of spec/.

A step-level statement names the turn that the step takes (`s.nextTurn`) and what is left of the schedule
(`s.sched.tail`): both are the model's own (notes/assumptions/1.md, 2.md). Where an equation of states keeps
`CMD` after `complete`, that is 10_state.md R10 (only acceptance writes it). Hypotheses such as
`s.portData.wf` rule out data that stands for no port file (notes/assumptions/7.md). -/

open Sys2Proof Sys2Proof.Machine

/-! ## Reset and the invariant -/

/-- 70_reset_and_hazards.md R191. -/
def Obligations.AfterResetTheBlockWaitsForACommand : Prop :=
  ∀ s : State, s.nextTurn = .rst → ∃ t, step s = .next t ∧
    t.pos = .idle ∧ t.busy = false ∧ t.timer.run = false ∧ t.constructed = false ∧ t.seqEnabled = false ∧
    (∀ w rest, t.host = .command w :: rest →
      t.turn .host = .next { t with cmd := w, busy := true, pos := .adm, host := rest })

/-- The reset values that 10_state.md R30 gives, after the event of 70_reset_and_hazards.md R190 in any
state; nothing is said of the elements to which R30 gives no value. -/
def Obligations.ResetEventGivesTheResetValues : Prop :=
  ∀ s : State, s.nextTurn = .rst → ∃ t, step s = .next t ∧
    t.constructed = false ∧ t.cfgSet = false ∧ t.timer.run = false ∧ t.timer.ocf = false ∧
    (∀ p, t.portMode.read p = 0) ∧ (∀ i, t.line i = .z) ∧ t.busy = false ∧ t.pos = .idle ∧
    t.ie = s.cfg.ieReset ∧ t.fault = 0

/-- The invariant of 10_state.md R31 holds after reset, on every platform the spec allows. -/
def Obligations.ResetStateSatisfiesTheInvariant : Prop :=
  State.reset.Inv ∧ ∀ c host sched, c.ok = true → (State.afterReset c host sched).Inv

/-- 10_state.md R31: every step keeps the invariant. `State.Inv` holds the clauses (a) to (e) of R31 and
what their preservation needs inside a running command. -/
def Obligations.StepKeepsTheInvariant : Prop :=
  ∀ s t : State, s.Inv → step s = .next t → t.Inv

/-- 10_state.md R10, column "written by": each of its elements changes only in a step of the commands and
agents named there (and of `rst`). ENV may write port bits by 20_memory.md R59; acceptance, a step of HOST,
raises `BUSY` and writes `POS` by 30_encoding.md R74, and `complete`, a step of SEQ, lowers `BUSY` by R75. -/
def Obligations.ElementsAreWrittenByTheirCommandsOnly : Prop :=
  ∀ s t : State, step s = .next t → s.nextTurn ≠ .rst →
    (t.constructed ≠ s.constructed → s.runsOneOf ["CONSTRUCT", "DESTROY"]) ∧
    (t.ch ≠ s.ch → s.runsOneOf ["CONSTRUCT"]) ∧
    (t.inv ≠ s.inv → s.runsOneOf ["CONSTRUCT"]) ∧
    (t.pmode ≠ s.pmode → s.runsOneOf ["BEGIN"]) ∧
    (t.stopb ≠ s.stopb → s.runsOneOf ["BEGIN"]) ∧
    (t.cfgSet ≠ s.cfgSet → s.runsOneOf ["BEGIN", "CONSTRUCT", "DESTROY"]) ∧
    (t.timer.run ≠ s.timer.run →
      s.runsOneOf ["CLK_CONFIGURE", "CONSTRUCT", "BEGIN", "CLK_STOP", "DESTROY"]) ∧
    (t.timer.div ≠ s.timer.div ∨ t.timer.cmp ≠ s.timer.cmp →
      s.runsOneOf ["CLK_CONFIGURE", "CONSTRUCT", "BEGIN"]) ∧
    (t.timer.pre ≠ s.timer.pre ∨ t.timer.cnt ≠ s.timer.cnt →
      s.runsOneOf ["CLK_CONFIGURE", "CONSTRUCT", "BEGIN"] ∨ s.nextTurn = .clk ∨ s.nextTurn = .matchEvent) ∧
    (t.timer.ocf ≠ s.timer.ocf →
      s.runsOneOf ["CLK_CONFIGURE", "CONSTRUCT", "BEGIN", "CLK_AWAIT", "WRITE"] ∨
      s.nextTurn = .clk ∨ s.nextTurn = .matchEvent) ∧
    (t.portData ≠ s.portData → s.runsOneOf ["CONSTRUCT", "WRITE"] ∨
      ∃ a, s.nextTurn = .env a ∨ s.nextTurn = .platform a) ∧
    (t.portMode ≠ s.portMode → s.runsOneOf ["CONSTRUCT"] ∨
      ∃ a, s.nextTurn = .env a ∨ s.nextTurn = .platform a) ∧
    (t.txb ≠ s.txb ∨ t.q ≠ s.q ∨ t.ieSaved ≠ s.ieSaved → s.runsOneOf ["WRITE"]) ∧
    (s.busy = false → t.busy = true → s.nextTurn = .host) ∧
    (s.busy = true → t.busy = false → s.nextTurn = .seq ∨ s.nextTurn = .micro) ∧
    (t.cmd ≠ s.cmd → s.nextTurn = .host) ∧
    (t.pos ≠ s.pos → s.nextTurn = .host ∨ s.nextTurn = .seq ∨ s.nextTurn = .micro) ∧
    (t.res ≠ s.res → s.runsOneOf ["WRITE", "READ", "AVAILABLE", "VALID"]) ∧
    (t.ie ≠ s.ie → s.runsOneOf ["WRITE"] ∨ s.nextTurn = .host) ∧
    (t.fault ≠ s.fault → s.fault = 0 ∧ s.pos = .adm ∧ (s.nextTurn = .seq ∨ s.nextTurn = .micro)) ∧
    t.cfg = s.cfg

/-- 10_state.md R10: where its guard fails, an element holds no value "and no rule reads it". Two states
that agree on every element that holds a value have steps that do. `RES` and the port data bits, which R30
leaves without a value until they are written, may differ too, but for the latches that an instance has
driven: a step writes the same in both states or leaves each its own. -/
def Obligations.UnsetElementsAreNeverRead : Prop :=
  ∀ s t : State, s.Inv → t.Inv → s.SameValues t → SameOutcome s t (step s) (step t)

/-! ## The command port -/

/-- A step runs the decoded command: SEQ's turn is `exec` of what `CMD` decodes to. An accepted command is
run by the very next step where nothing else is scheduled (notes/assumptions/2.md). -/
def Obligations.StepRunsTheDecodedCommand : Prop :=
  ∀ (s : State) (i : Instr), decode s.cmd = .ok i → s.seqEnabled = true →
    i.wf = true ∧
    (s.nextTurn = .seq → step s = exec i { s with sched := s.sched.tail }) ∧
    (s.sched = [] → step s = exec i s)

/-- `withFetchWord` puts a word where the next step runs it (the model's own, notes/assumptions/22.md). -/
def Obligations.StoredWordIsRunNext : Prop :=
  ∀ (s : State) (nbits w : Nat) (i : Instr), decodeTableWord nbits w = some i →
    decode (s.withFetchWord nbits w).cmd = .ok i ∧ (s.withFetchWord nbits w).Accepted ∧
    step (s.withFetchWord nbits w) = exec i (s.withFetchWord nbits w) ∧
    s.withFetchWord nbits w =
      { s with cmd := BitVec.ofNat 48 (w % 2 ^ nbits), busy := true, pos := .adm, fault := 0, sched := [] }

/-- 30_encoding.md R74: acceptance is one step, and a closed port accepts nothing. Between commands the
host may also write `IE` (10_state.md R21, 20_memory.md R59). -/
def Obligations.HostPresentsOnlyToAnOpenPort : Prop :=
  ∀ s : State, s.nextTurn = .host →
    (∀ w rest, s.host = .command w :: rest → s.busy = false → s.fault = 0 →
      step s = .next
        { s with cmd := w, busy := true, pos := .adm, host := rest, sched := s.sched.tail }) ∧
    (∀ b rest, s.host = .setIe b :: rest → s.busy = false → s.fault = 0 →
      step s = .next { s with ie := b, host := rest, sched := s.sched.tail }) ∧
    (s.busy = true ∨ s.fault ≠ 0 → step s = .next { s with sched := s.sched.tail })

/-- 10_state.md R18, 30_encoding.md R75: while a command runs its word stays, the host has no step, and
`BUSY` falls only at SEQ's `complete`. -/
def Obligations.CommandStaysWhileBusy : Prop :=
  ∀ s t : State, step s = .next t → s.nextTurn ≠ .rst → s.busy = true →
    t.cmd = s.cmd ∧ t.host = s.host ∧
    (t.busy = false → t.pos = .idle ∧ s.fault = 0 ∧ t.fault = 0 ∧
      (s.nextTurn = .seq ∨ s.nextTurn = .micro))

/-! ## Encoding -/

/-- Decode and encode agree: no bit of an encoding is dropped (30_encoding.md R60 to R66). -/
def Obligations.DecodeInvertsEncode : Prop :=
  ∀ i : Instr, i.wf = true →
    decode (encode i) = .ok i ∧ decodeTableWord 48 (encode i).toNat = some i

/-- Each legal word has one meaning: it is the word of the command it spells (30_encoding.md R66, R70). -/
def Obligations.EncodeInvertsDecode : Prop :=
  ∀ (w : CmdWord) (i : Instr), decode w = .ok i → encode i = w ∧ i.wf = true

/-- 30_encoding.md R66: the operands are fields of the word, the legal words are those of the rows of the
opcode map, and the rows are disjoint. -/
def Obligations.LegalWordsAreTheRowsOfTheMap : Prop :=
  (∀ (w : CmdWord) (m : String), (∃ i, decode w = .ok i ∧ i.mnemonic = m) ↔
    ∃ r ∈ opcodeRows, r.mnemonic = m ∧ r.spells w = true) ∧
  (∀ w : CmdWord, ∀ r ∈ opcodeRows, ∀ r' ∈ opcodeRows, r.spells w = true → r'.spells w = true → r = r') ∧
  (∀ (w : CmdWord) (i : Instr), decode w = .ok i →
    match i with
    | .construct p0 p1 p2 p3 inv =>
      p0 = w.extractLsb' 0 8 ∧ p1 = w.extractLsb' 8 8 ∧ p2 = w.extractLsb' 16 8 ∧
        p3 = w.extractLsb' 24 8 ∧ inv = w.getLsbD 32
    | .begin rate par stop =>
      rate = w.extractLsb' 0 32 ∧ par = w.extractLsb' 32 2 ∧ stop = w.extractLsb' 34 6
    | .write d0 d1 d2 d3 =>
      d0 = w.extractLsb' 0 8 ∧ d1 = w.extractLsb' 8 8 ∧ d2 = w.extractLsb' 16 8 ∧ d3 = w.extractLsb' 24 8
    | .clkConfigure div cmp => div = w.extractLsb' 16 16 ∧ cmp = w.extractLsb' 0 16
    | .read | .available | .flush | .valid | .destroy | .clkAwait | .clkStop =>
      w.extractLsb' 0 40 = 0)

/-- 30_encoding.md R73: the worked encodings. -/
def Obligations.WorkedEncodingsAreRead : Prop :=
  decode 0x010005040302 = .ok (.construct 2 3 4 5 false) ∧
  decode 0x010105040302 = .ok (.construct 2 3 4 5 true) ∧
  decode 0x0204000186A0 = .ok (.begin 100000 0 1) ∧
  decode 0x0209000186A0 = .ok (.begin 100000 1 2) ∧
  decode 0x0206000186A0 = .ok (.begin 100000 2 1) ∧
  decode 0x0300FF00AA55 = .ok (.write 0x55 0xAA 0x00 0xFF) ∧
  decode 0x040000000000 = .ok .read ∧
  decode 0x100000080014 = .ok (.clkConfigure 8 20) ∧
  decode 0x110000000000 = .ok .clkAwait ∧
  decode 0x120000000000 = .ok .clkStop

/-- 30_encoding.md R69: which words are illegal, and that one raises `ILLEGAL_CMD` with no other effect. -/
def Obligations.IllegalWordsFault : Prop :=
  (∀ w : CmdWord, (∃ e, decode w = .error e) ↔
    (opField w ∉ [0x01#8, 0x02, 0x03, 0x04, 0x05, 0x06, 0x07, 0x08, 0x10, 0x11, 0x12] ∨
      (opField w = 0x01 ∧ w.extractLsb' 33 7 ≠ 0) ∨
      (opField w = 0x02 ∧ w.extractLsb' 32 2 = 3) ∨
      ((opField w = 0x03 ∨ opField w = 0x10) ∧ w.extractLsb' 32 8 ≠ 0) ∨
      (opField w ∈ [0x04#8, 0x05, 0x06, 0x07, 0x08, 0x11, 0x12] ∧ w.extractLsb' 0 40 ≠ 0))) ∧
  (∀ (s : State) (e : DecodeError), s.Accepted → decode s.cmd = .error e →
    s.turn .seq = .next { s with fault := 1 } ∧ s.turn .micro = .next { s with fault := 1 })

/-! ## Admission and faults -/

/-- 60_exceptions.md R162: the checks of the admission sequence, in order, and that nothing else raises a
fault. -/
def Obligations.AdmissionRaisesTheFirstFailingFault : Prop :=
  (∀ (s : State) (e : DecodeError), s.Accepted → decode s.cmd = .error e →
    s.turn .micro = .next { s with fault := 1 }) ∧
  (∀ (s : State) (i : Instr), s.Accepted → decode s.cmd = .ok i →
    let alreadyThere := i.mnemonic = "CONSTRUCT" ∧ s.constructed = true
    let notThere := i.mnemonic ∈ ["BEGIN", "WRITE", "READ", "AVAILABLE", "FLUSH", "VALID", "DESTROY"] ∧
      s.constructed = false
    let badPins := ∃ p0 p1 p2 p3 inv, i = .construct p0 p1 p2 p3 inv ∧ s.constructed = false ∧
      ((∃ k, pinValid s.cfg (Lanes.get ⟨p0, p1, p2, p3⟩ k) = false) ∨
        ∃ k l, k ≠ l ∧ Lanes.get ⟨p0, p1, p2, p3⟩ k = Lanes.get ⟨p0, p1, p2, p3⟩ l)
    let unset := i.mnemonic = "WRITE" ∧ s.constructed = true ∧ s.cfgSet = false
    (alreadyThere → s.turn .micro = .next { s with fault := 3 }) ∧
    (notThere → s.turn .micro = .next { s with fault := 2 }) ∧
    (badPins → s.turn .micro = .next { s with fault := 4 }) ∧
    (unset → s.turn .micro = .next { s with fault := 5 }) ∧
    (¬alreadyThere → ¬notThere → ¬badPins → ¬unset →
      ∃ p, p ≠ .adm ∧ p.fits i = true ∧ s.turn .micro = .next { s with pos := p })) ∧
  (∀ s t : State, step s = .next t → s.fault = 0 → t.fault ≠ 0 →
    s.pos = .adm ∧ (s.nextTurn = .seq ∨ s.nextTurn = .micro))

/-- 60_exceptions.md R163: fault entry. Whatever check fails, `exec` stops at once with the state before
the command, plus `FAULT`; SEQ and HOST then have no step. -/
def Obligations.FaultEntryIsPrecise : Prop :=
  ∀ (s : State) (i : Instr) (c : FaultCode), s.Accepted → admission s i = some c →
    exec i s = .next { s with fault := c.bits } ∧
    (1 ≤ c.bits.toNat ∧ c.bits.toNat ≤ 5) ∧
    State.seqEnabled { s with fault := c.bits } = false ∧
    State.hostEnabled { s with fault := c.bits } = false

/-- 10_state.md R22. -/
def Obligations.FaultIsStickyUntilReset : Prop :=
  (∀ s t : State, s.nextTurn = .rst → step s = .next t → t.fault = 0) ∧
  (∀ (s : State) (c : FaultCode), s.raiseFault c = if s.fault = 0 then { s with fault := c.bits } else s) ∧
  (∀ s t : State, step s = .next t → s.fault ≠ 0 → t.fault ≠ s.fault → s.nextTurn = .rst)

/-- 60_exceptions.md R164, 95_test_vectors.md F9, F11: a fault stops SEQ and HOST; only `rst` leads out. TMR
goes on: its clock counts and its match event sets the flag, after a faulted WRITE too
(notes/assumptions/10.md; the match's phase is notes/assumptions/9.md). ENV goes on iff `IE` is 1, and it and
the platform alone change port bits (what such a turn does: `EnvironmentChangesOneForeignBit`). -/
def Obligations.FaultedBlockIsBlocked : Prop :=
  ∀ s : State, s.fault ≠ 0 →
    (∀ t, step s = .next t → s.nextTurn ≠ .rst →
      t = { s with
        timer := t.timer, portData := t.portData, portMode := t.portMode, sched := s.sched.tail } ∧
      (t.timer ≠ s.timer → s.nextTurn = .clk ∨ s.nextTurn = .matchEvent) ∧
      (t.portData ≠ s.portData ∨ t.portMode ≠ s.portMode →
        ∃ a, (s.nextTurn = .env a ∧ s.ie = true) ∨ s.nextTurn = .platform a)) ∧
    (s.nextTurn = .clk → step s = .next { s with timer := s.timer.clk, sched := s.sched.tail }) ∧
    (s.nextTurn = .matchEvent → s.timer.canMatch = true → step s = .next
      { s with timer := { s.timer with pre := 0, cnt := 0, ocf := true }, sched := s.sched.tail }) ∧
    (∀ a, s.nextTurn = .env a → s.ie = true →
      step s = State.turn { s with sched := s.sched.tail } (.platform a))

/-! ## The stream stubs -/

/-- 43_stream.md R150, R151. -/
def Obligations.ReadAndAvailableReportNoData : Prop :=
  (∀ s : State, s.Accepted →
    (s.constructed = true →
      exec .read s = .next { s with res := 0xFFFFFFFF, busy := false, pos := .idle } ∧
      exec .available s = .next { s with res := 0xFFFFFFFF, busy := false, pos := .idle }) ∧
    (s.constructed = false →
      exec .read s = .next { s with fault := 2 } ∧ exec .available s = .next { s with fault := 2 })) ∧
  decode 0x040000000000 = .ok .read ∧ decode 0x050000000000 = .ok .available ∧
  (∀ w : CmdWord, opField w = 0x04 ∨ opField w = 0x05 → w.extractLsb' 0 40 ≠ 0 →
    decode w = .error .reservedBits)

/-- 43_stream.md R152. -/
def Obligations.FlushIsANoOp : Prop :=
  (∀ s : State, s.Accepted →
    (s.constructed = true → exec .flush s = .next { s with busy := false, pos := .idle }) ∧
    (s.constructed = false → exec .flush s = .next { s with fault := 2 })) ∧
  decode 0x060000000000 = .ok .flush ∧
  (∀ w : CmdWord, opField w = 0x06 → w.extractLsb' 0 40 ≠ 0 → decode w = .error .reservedBits)

/-- 43_stream.md R153. -/
def Obligations.ValidAnswersTrueOnceConstructed : Prop :=
  (∀ s : State, s.Accepted →
    (s.constructed = true → exec .valid s = .next { s with res := 1, busy := false, pos := .idle }) ∧
    (s.constructed = false → exec .valid s = .next { s with fault := 2 })) ∧
  decode 0x070000000000 = .ok .valid ∧
  (∀ w : CmdWord, opField w = 0x07 → w.extractLsb' 0 40 ≠ 0 → decode w = .error .reservedBits)

/-- 10_state.md R20: only the four result-returning commands write `RES`, at their completion, and each
its own result; a command that faulted or still waits has not written it. -/
def Obligations.ResultIsWrittenAtCompletionOnly : Prop :=
  ∀ (s t : State) (i : Instr), exec i s = .next t →
    (t.busy = true → t.res = s.res) ∧
    (t.fault ≠ 0 → t.res = s.res) ∧
    (s.busy = true → t.busy = false →
      match i with
      | .write .. | .valid => t.res = 1
      | .read | .available => t.res = BitVec.allOnes 32
      | .construct .. | .begin .. | .flush | .destroy | .clkConfigure .. | .clkAwait | .clkStop =>
        t.res = s.res)

/-! ## The clock -/

/-- 40_clock.md R81: in any lifecycle and timer state. -/
def Obligations.ClkConfigureProgramsAndStarts : Prop :=
  (∀ (s : State) (div cmp : BitVec 16), s.Accepted →
    exec (.clkConfigure div cmp) s = .next
      { s with timer := ⟨true, div, cmp, 0, 0, false⟩, busy := false, pos := .idle }) ∧
  decode 0x100000080014 = .ok (.clkConfigure 8 20) ∧
  (Timer.clk^[159] ⟨true, 8, 20, 0, 0, false⟩).ocf = false ∧
  (Timer.clk^[160] ⟨true, 8, 20, 0, 0, false⟩).ocf = true

/-- 40_clock.md R83: only `T_RUN` changes, a second stop changes nothing, a stopped timer neither counts
nor matches. -/
def Obligations.ClkStopStopsCounting : Prop :=
  (∀ s : State, s.Accepted →
    exec .clkStop s = .next
      { s with timer := { s.timer with run := false }, busy := false, pos := .idle }) ∧
  (∀ t : Timer, t.run = false → { t with run := false } = t ∧ t.clk = t ∧ t.canMatch = false) ∧
  decode 0x120000000000 = .ok .clkStop

/-- 40_clock.md R82: with the flag set the wait completes and clears it; with the flag clear SEQ stands at
the wait, and stays there until the flag is set. -/
def Obligations.ClkAwaitWaitsForTheFlag : Prop :=
  (∀ s : State, s.Accepted ∨ (s.busy = true ∧ s.fault = 0 ∧ s.pos = .clkAwait) →
    (s.timer.ocf = true → exec .clkAwait s = .next
      { s with timer := { s.timer with ocf := false }, busy := false, pos := .idle }) ∧
    (s.timer.ocf = false → exec .clkAwait s = .next { s with pos := .clkAwait })) ∧
  decode 0x110000000000 = .ok .clkAwait

/-- 40_clock.md R84 refines R85: from every phase the input clocks lead, without setting the flag before,
to exactly the match event; within one bit period. That the match event also sets the phase to zero is the
model's (notes/assumptions/9.md). -/
def Obligations.InputClocksReachTheMatchEvent : Prop :=
  ∀ t : Timer, t.canMatch = true → t.pre.toNat < t.div.toNat → t.cnt.toNat < t.cmp.toNat →
    ∃ n, 1 ≤ n ∧ n ≤ t.div.toNat * t.cmp.toNat ∧
      n = (t.div.toNat - t.pre.toNat) + (t.cmp.toNat - 1 - t.cnt.toNat) * t.div.toNat ∧
      Timer.clk^[n] t = t.matchEvent ∧ t.matchEvent = { t with pre := 0, cnt := 0, ocf := true } ∧
      ∀ m, m < n → (Timer.clk^[m] t).ocf = t.ocf

/-- 70_reset_and_hazards.md R208: after CLK_CONFIGURE the matches fall at the multiples of `T_DIV × T_CMP`
clocks, and at no other; for the fixed configuration of the primary revision, of `CLK_DIV_FIXED × 20`. -/
def Obligations.BitPeriodIsDividerTimesCompare : Prop :=
  (∀ (div cmp : BitVec 16) (n : Nat), div ≠ 0 → cmp ≠ 0 →
    ((Timer.clk^[n] (Timer.configure div cmp)).clkMatches = true ↔
      (n + 1) % (div.toNat * cmp.toNat) = 0)) ∧
  (∀ (s : State) (n : Nat), s.cfg.ok = true → s.cfg.cmpFixed = 20 →
    ((Timer.clk^[n] s.clockStart.timer).clkMatches = true ↔ (n + 1) % (s.cfg.divFixed.toNat * 20) = 0))

/-- 40_clock.md R86. -/
def Obligations.MatchlessTimerNeverMatches : Prop :=
  (∀ (t : Timer) (n : Nat), t.run = true → t.div = 0 ∨ t.cmp = 0 →
    (Timer.clk^[n] t).run = true ∧ (Timer.clk^[n] t).ocf = t.ocf ∧ (Timer.clk^[n] t).canMatch = false) ∧
  (∀ s : State, s.cfg.ok = true → s.clockStart.timer.canMatch = true)

/-- 20_memory.md R54, 40_clock.md R84, R85, R87: TMR touches nothing but the phase and the flag, and only
sets the flag, at a match, under the slot law (20_memory.md R52). -/
def Obligations.TimerOnlySetsTheFlag : Prop :=
  ∀ s t : State, s.nextTurn = .clk ∨ s.nextTurn = .matchEvent → step s = .next t →
    t = { s with timer := t.timer, sched := s.sched.tail } ∧
    t.timer.run = s.timer.run ∧ t.timer.div = s.timer.div ∧ t.timer.cmp = s.timer.cmp ∧
    (s.timer.ocf = true → t.timer.ocf = true) ∧
    (t.timer.ocf ≠ s.timer.ocf → s.timer.canMatch = true ∧
      (s.busy = true → s.fault = 0 → isWrite s.cmd = true → s.pos.isAwait = true))

/-- 20_memory.md R52, 40_clock.md R85: when the match event is enabled, its turn sets the flag. A faulted
WRITE is not under the slot law (notes/assumptions/10.md; 95_test_vectors.md F11). -/
def Obligations.MatchEventIsTakenUnderTheSlotLaw : Prop :=
  ∀ s : State, s.nextTurn = .matchEvent →
    (s.timer.canMatch = true → (isWrite s.cmd = false ∨ s.busy = false ∨ s.pos.isAwait = true ∨ s.fault ≠ 0) →
      ∃ t, step s = .next t ∧ t.timer.ocf = true) ∧
    (s.busy = true → s.fault = 0 → isWrite s.cmd = true → s.pos.isAwait = false →
      step s = .next { s with sched := s.sched.tail }) ∧
    (s.timer.run = false ∨ s.timer.div = 0 ∨ s.timer.cmp = 0 →
      step s = .next { s with sched := s.sched.tail })

/-- 10_state.md R23, first row: who clears `T_OCF` and who sets it. -/
def Obligations.FlagIsClearedByWaitsAndStartsOnly : Prop :=
  ∀ s t : State, step s = .next t → s.nextTurn ≠ .rst →
    (s.timer.ocf = true → t.timer.ocf = false →
      s.runsOneOf ["CLK_CONFIGURE", "CONSTRUCT", "BEGIN", "CLK_AWAIT", "WRITE"]) ∧
    (s.timer.ocf = false → t.timer.ocf = true → s.nextTurn = .clk ∨ s.nextTurn = .matchEvent)

/-! ## Lifecycle -/

/-- 41_lifecycle.md R101: the whole effect of an admitted CONSTRUCT, and that no port bit of another pin
changes (20_memory.md R42, R43). -/
def Obligations.ConstructBindsAndDrivesIdle : Prop :=
  ∀ (s : State) (p0 p1 p2 p3 : PinId) (inv : Bool), s.Accepted → s.constructed = false →
    pinsOk s.cfg ⟨p0, p1, p2, p3⟩ = true → s.cfg.ok = true → s.portData.wf = true → s.portMode.wf = true →
    ∃ t, exec (.construct p0 p1 p2 p3 inv) s = .next t ∧
      t = { s with
        constructed := true
        ch := ⟨channelOf s.cfg p0, channelOf s.cfg p1, channelOf s.cfg p2, channelOf s.cfg p3⟩
        inv := inv
        cfgSet := false
        timer := ⟨true, s.cfg.divFixed, s.cfg.cmpFixed, 0, 0, false⟩
        portData := t.portData, portMode := t.portMode, busy := false, pos := .idle } ∧
      (∀ i, t.txd i = !inv) ∧ (∀ i, t.oe i = true) ∧ (∀ i, t.line i = .level (!inv)) ∧
      ∀ port bit, (∀ i, ¬t.ownsBit i port bit) →
        (t.portData.read port).testBit bit = (s.portData.read port).testBit bit ∧
        (t.portMode.read port).testBit bit = (s.portMode.read port).testBit bit

/-- 41_lifecycle.md R102: when CONSTRUCT switches a pin to output mode the latch holds the idle level, so
the line goes from `Z` to idle; the latch write before it does not show on the line (20_memory.md R44). -/
def Obligations.ConstructShowsNoGlitch : Prop :=
  ∀ (s : State) (p0 p1 p2 p3 : PinId) (inv : Bool), s.Inv →
    decode s.cmd = .ok (.construct p0 p1 p2 p3 inv) →
    (∀ i, s.pos = .construct (.drive i) → s.oe i = false →
      ∃ t, s.turn .micro = .next t ∧ t.pos = .construct (.mode i) ∧ t.txd i = !inv ∧ t.line i = .z) ∧
    (∀ i, s.pos = .construct (.mode i) →
      ∃ t, s.turn .micro = .next t ∧ t.portData = s.portData ∧ s.txd i = !inv ∧ t.line i = .level (!inv)) ∧
    (∀ p, s.pos = .construct p → (∀ i, p ≠ .mode i) →
      ∃ t, s.turn .micro = .next t ∧ t.portMode = s.portMode)

/-- 41_lifecycle.md R104. -/
def Obligations.BeginStoresTheConfiguration : Prop :=
  ∀ (s : State) (rate : BitVec 32) (par : BitVec 2) (stop : BitVec 6), s.Accepted →
    (par ≠ 3 → s.constructed = true → exec (.begin rate par stop) s = .next
      { s with
        pmode := par, stopb := stop, cfgSet := true
        timer := ⟨true, s.cfg.divFixed, s.cfg.cmpFixed, 0, 0, false⟩
        busy := false, pos := .idle }) ∧
    (par = 3 → exec (.begin rate par stop) s = .next { s with fault := 1 }) ∧
    (par ≠ 3 → s.constructed = false → exec (.begin rate par stop) s = .next { s with fault := 2 })

/-- 41_lifecycle.md R105: two BEGIN commands that differ only in the rate have the same effect. -/
def Obligations.BitRateIsInert : Prop :=
  ∀ (s : State) (rate rate' : BitVec 32) (par : BitVec 2) (stop : BitVec 6),
    exec (.begin rate par stop) s = exec (.begin rate' par stop) s

/-- 41_lifecycle.md R107. `CH`, `INV`, `PMODE`, `STOPB` hold no value afterwards: nothing is said of
them. -/
def Obligations.DestroyEndsTheInstance : Prop :=
  ∀ s : State, s.Accepted →
    (s.constructed = true → ∃ t, exec .destroy s = .next t ∧
      t = { s with
        timer := { s.timer with run := false }, cfgSet := false, constructed := false
        ch := t.ch, inv := t.inv, pmode := t.pmode, stopb := t.stopb
        busy := false, pos := .idle }) ∧
    (s.constructed = false → exec .destroy s = .next { s with fault := 2 })

/-! ## WRITE -/

/-- 42_write.md R121, R122, R125: an admitted WRITE latches the transmitted bytes and, with parity, their
bit counts, and enters the critical section; then it stands at its first wait. With the flag clear `exec`
stops there; with a stale flag it goes on (70_reset_and_hazards.md R195). -/
def Obligations.WriteLatchesAndEntersTheCriticalSection : Prop :=
  ∀ (s : State) (d : Lanes Byte), s.Accepted → s.constructed = true → s.cfgSet = true →
    decode s.cmd = .ok (.write d.l0 d.l1 d.l2 d.l3) →
    ∃ t n, t = State.microTurn^[n] s ∧
      t = { s with
        txb := .ofFn fun i => if s.inv then ~~~(d.get i) else d.get i
        q := t.q, ieSaved := s.ie, ie := false, pos := .write (firstWait s.cfg) } ∧
      (s.pmode ≠ 0 → ∀ i, t.q.get i = decide (popcount8 (t.txb.get i) % 2 = 1)) ∧
      (s.pmode = 0 → t.q = s.q) ∧
      (s.timer.ocf = false → exec (.write d.l0 d.l1 d.l2 d.l3) s = .next t)

/-- 42_write.md R127 to R130, R139: a slot of WRITE, entered with the flag set, clears the flag, puts its
level on the four lines, changes no other port bit, and stands at the next slot's wait. A wait of the
pre-synchronisation (R140) clears the flag and drives nothing. -/
def Obligations.WriteSlotDrivesTheFourLines : Prop :=
  (∀ (s : State) (d : Lanes Byte) (slot : Slot), s.Inv → s.pos = .write (.await slot) →
    s.timer.ocf = true →
    ∃ t, exec (.write d.l0 d.l1 d.l2 d.l3) s = .next t ∧
      t = { s with
        timer := { s.timer with ocf := false }, portData := t.portData
        pos := .write (afterSlot s.pmode slot) } ∧
      (∀ i, t.line i = .level (match slot with
        | .start => s.inv
        | .bit k => (s.txb.get i).getLsbD k
        | .par => (if s.pmode = 1 then s.q.get i else !s.q.get i) ^^ (s.inv && s.cfg.parFollowsInv)
        | .stop => !s.inv)) ∧
      ∀ port bit, (∀ i, ¬s.ownsBit i port bit) →
        (t.portData.read port).testBit bit = (s.portData.read port).testBit bit) ∧
  (∀ (s : State) (d : Lanes Byte) (n : Nat), s.busy = true → s.fault = 0 → s.timer.ocf = true →
    s.pos = .write (.pre n) →
    exec (.write d.l0 d.l1 d.l2 d.l3) s = .next
      { s with
        timer := { s.timer with ocf := false }
        pos := .write (if n = 0 then .await .start else .pre (n - 1)) })

/-- 42_write.md R131 to R133, 30_encoding.md R68: the stop bit's waits, and WRITE's completion: interrupts
as they were saved, the result 1. `TXB`, `Q` and `IE_SAVED` hold no value after the completion (10_state.md
R10, R17); that they keep their last bits there is the model's choice (notes/assumptions/6.md). -/
def Obligations.WriteCompletesAfterTheStopBits : Prop :=
  ∀ (s : State) (d : Lanes Byte), s.busy = true → s.fault = 0 → s.timer.ocf = true →
    ((s.pos = .write .t1 ∧ s.stopb.toNat ≤ 1) ∨ s.pos = .write .t2 →
      exec (.write d.l0 d.l1 d.l2 d.l3) s = .next
        { s with
          timer := { s.timer with ocf := false }, ie := s.ieSaved, res := 1, busy := false, pos := .idle }) ∧
    (s.pos = .write .t1 → 1 < s.stopb.toNat →
      exec (.write d.l0 d.l1 d.l2 d.l3) s = .next
        { s with timer := { s.timer with ocf := false }, pos := .write .t2 })

/-- 42_write.md R139, R120: every micro-step of WRITE leads to the next position of the list. -/
def Obligations.WriteStepsThroughItsPositionsInOrder : Prop :=
  ∀ (s : State) (d : Lanes Byte) (p : WritePos), s.Inv → s.seqEnabled = true → s.pos = .write p →
    decode s.cmd = .ok (.write d.l0 d.l1 d.l2 d.l3) →
    ∃ before after, writeSteps s.cfg s.pmode s.stopb = before ++ p :: after ∧
      s.microTurn.pos = (match after with
        | [] => .done
        | q :: _ => .write q)

/-- 42_write.md R134: the counts of waits, pin writes and cells, over the list of positions that
`WriteStepsThroughItsPositionsInOrder` speaks of. -/
def Obligations.WriteCountsOfWaitsPinWritesAndCells : Prop :=
  ∀ (c : Config) (pmode : BitVec 2) (stopb : BitVec 6),
    let parity := if pmode ≠ 0 then 1 else 0
    let second := if 1 < stopb.toNat then 1 else 0
    (writeSteps c pmode stopb).countP (fun p => (Pos.write p).isAwait) = c.preSync + 11 + parity + second ∧
    (writeSteps c pmode stopb).countP WritePos.writesPin = 4 * (10 + parity) ∧
    ∀ (data : Lanes Byte) (inv : Bool), (cells c data inv pmode stopb).length = 10 + parity + second

/-- 42_write.md R135: a WRITE on a running timer, every match being taken when SEQ waits for it and nothing
else in between (the default schedule, the model's own: notes/assumptions/2.md), shows exactly `Cells` to the reference observer; before them the idle vector, once for each
match before the start bit, none of them for a stale flag; it completes with the result 1, the interrupt
state it found and the lines at rest. -/
def Obligations.WriteEmitsItsCells : Prop :=
  ∀ (s : State) (d : Lanes Byte), s.Inv → s.Accepted → s.constructed = true → s.cfgSet = true →
    decode s.cmd = .ok (.write d.l0 d.l1 d.l2 d.l3) → s.timer.canMatch = true → s.sched = [] →
    let stale := s.timer.ocf.toNat
    let steps := 1 + 2 * (waits s.cfg s.pmode s.stopb - stale)
    samples steps s =
      List.replicate (s.cfg.preSync + 1 - stale) (.ofFn fun _ => .level (idleLevel s.inv)) ++
      (cells s.cfg d s.inv s.pmode s.stopb).map (fun v => .ofFn fun i => .level (v.get i)) ∧
    ∃ t, core.run steps s = .next t ∧
      t.busy = false ∧ t.pos = .idle ∧ t.fault = 0 ∧ t.res = 1 ∧ t.ie = s.ie ∧ t.timer.ocf = false ∧
      (∀ i, t.line i = .level (idleLevel s.inv)) ∧
      t.ch = s.ch ∧ t.inv = s.inv ∧ t.pmode = s.pmode ∧ t.stopb = s.stopb ∧ t.cfgSet = s.cfgSet ∧
      t.constructed = s.constructed ∧ t.portMode = s.portMode ∧ t.timer.run = s.timer.run ∧
      t.timer.div = s.timer.div ∧ t.timer.cmp = s.timer.cmp

/-- 42_write.md R136: every channel's column of `Cells` decodes, in the effective sense, to its byte. The
parity bit decodes to `P[i]` for the spec's `PAR_FOLLOWS_INV` = 1; under the other reading (R123) the level is
not complemented, and the effective bit is. -/
def Obligations.EveryFrameDecodesToItsBytes : Prop :=
  ∀ (c : Config) (data : Lanes Byte) (inv : Bool) (pmode : BitVec 2) (stopb : BitVec 6) (i : Fin 4),
    let e := effective inv (cells c data inv pmode stopb) i
    let parity := if pmode ≠ 0 then 1 else 0
    e[0]? = some false ∧
    (∀ k, k < 8 → e[1 + k]? = some ((data.get i).getLsbD k)) ∧
    byteOfBits ((e.drop 1).take 8) = (data.get i).toNat ∧
    (c.parFollowsInv = true → pmode ≠ 0 → e[9]? = some (parityBit pmode (bitParity (data.get i)))) ∧
    (c.parFollowsInv = false → pmode ≠ 0 →
      e[9]? = some (parityBit pmode (bitParity (data.get i)) ^^ inv)) ∧
    e[9 + parity]? = some true ∧
    (1 < stopb.toNat → e[10 + parity]? = some true) ∧
    e.length = 10 + parity + if 1 < stopb.toNat then 1 else 0

/-- 42_write.md R137: the total of the set bits with the parity bit, the source's example, and no parity
cell without parity. -/
def Obligations.ParityMakesTheTotalEvenOrOdd : Prop :=
  (∀ d : Byte, (popcount8 d + (parityBit 1 (bitParity d)).toNat) % 2 = 0 ∧
    (popcount8 d + (parityBit 2 (bitParity d)).toNat) % 2 = 1) ∧
  (bitParity 0x0F = false ∧ parityBit 2 (bitParity 0x0F) = true) ∧
  (∀ (c : Config) (data : Lanes Byte) (inv : Bool) (pmode : BitVec 2) (stopb : BitVec 6), pmode ≠ 0 →
    (cells c data inv pmode stopb).length = (cells c data inv 0 stopb).length + 1)

/-- 42_write.md R121, R122: the transmitted byte is the operand byte or its complement, bit by bit; the
complement is an involution and keeps the bit-count parity. -/
def Obligations.InversionComplementsTheByte : Prop :=
  ∀ d : Byte, txByte false d = d ∧ (txByte true d).toNat = 255 - d.toNat ∧ ~~~(~~~d) = d ∧
    (∀ inv k, k < 8 → (txByte inv d).getLsbD k = (d.getLsbD k ^^ inv)) ∧
    (∀ inv, bitParity (txByte inv d) = decide (popcount8 d % 2 = 1))

/-- 42_write.md R124, 00_scope.md glossary: "inversion complements every transmitted bit including
start/stop", and the parity bit where the parity level follows the polarity. -/
def Obligations.InvertedFrameIsTheComplement : Prop :=
  ∀ (c : Config) (data : Lanes Byte) (pmode : BitVec 2) (stopb : BitVec 6),
    c.parFollowsInv = true ∨ pmode = 0 →
    cells c data true pmode stopb =
      (cells c data false pmode stopb).map fun v => .ofFn fun i => !(v.get i)

/-- 42_write.md R141: no lane reads another lane's data. Two WRITEs that differ only in the bytes of the
other channels show the same samples on channel i, under every schedule of SEQ and TMR. -/
def Obligations.LanesAreIndependent : Prop :=
  ∀ (s : State) (d d' : Lanes Byte) (i : Fin 4) (n : Nat), s.Inv → s.Accepted → s.constructed = true →
    s.cfgSet = true → s.host = [] →
    (∀ u ∈ s.sched, u = .seq ∨ u = .micro ∨ u = .clk ∨ u = .matchEvent) →
    d.get i = d'.get i →
    (samples n { s with cmd := encode (.write d.l0 d.l1 d.l2 d.l3) }).map (fun v => v.get i) =
      (samples n { s with cmd := encode (.write d'.l0 d'.l1 d'.l2 d'.l3) }).map (fun v => v.get i)

/-! ## Waits, holds, hangs -/

/-- `exec` is a run of SEQ's micro-steps, which the spec orders (20_memory.md R51), at most `seqFuel` = 32 of
them, and it ends only where SEQ has no step of its own: completed, faulted, or at a wait with the flag clear.
That one turn runs so far, and the bound, are the model's choice (notes/assumptions/3.md). -/
def Obligations.ExecRunsMicroStepsToRest : Prop :=
  ∀ (s t : State) (i : Instr), decode s.cmd = .ok i → s.pos.fits i = true → exec i s = .next t →
    t.seqEnabled = false ∧ ∃ n, n ≤ seqFuel ∧ t = State.microTurn^[n] s

/-- 10_state.md R19, 60_exceptions.md R168: at a wait with the flag clear no SEQ turn changes anything. -/
def Obligations.WaitHoldsWhileTheFlagIsClear : Prop :=
  ∀ (s : State) (i : Instr), s.busy = true → s.pos.isAwait = true → s.timer.ocf = false →
    exec i s = .next s ∧ s.turn .seq = .next s ∧ s.turn .micro = .next s

/-- 60_exceptions.md R168, 40_clock.md R91: under the default schedule (notes/assumptions/2.md) every hold
ends: the match comes and SEQ moves on. -/
def Obligations.EveryHoldEndsAtTheMatch : Prop :=
  ∀ (s : State) (i : Instr), s.held = true → s.sched = [] → decode s.cmd = .ok i → s.pos.fits i = true →
    ∃ t u, step s = .next t ∧ t = { s with timer := t.timer } ∧ t.timer.ocf = true ∧
      step t = .next u ∧ u.pos ≠ s.pos ∧ u.timer.ocf = false

/-- 42_write.md R138, 60_exceptions.md R168: a hang lasts until `rst`; it sets no fault and leaves `IE`, `RES`
and the lines as they are. -/
def Obligations.HangLastsUntilReset : Prop :=
  ∀ s t : State, s.hung = true → step s = .next t → s.nextTurn ≠ .rst →
    t.hung = true ∧ t.busy = true ∧ t.fault = 0 ∧ t.pos = s.pos ∧ t.cmd = s.cmd ∧ t.res = s.res ∧
    t.ie = s.ie ∧ t.host = s.host ∧
    (s.Inv → s.constructed = true → ∀ i, t.line i = s.line i)

/-! ## Ports and agents -/

/-- 20_memory.md R42: a pin write changes the channel's bit and no other. -/
def Obligations.PinWriteChangesOneBit : Prop :=
  ∀ (s : State) (i : Fin 4) (k : Nat) (b : Level), s.portData.wf = true → (s.ch.get i).mask = 2 ^ k →
    s.pinWrite i b = { s with portData := (s.pinWrite i b).portData } ∧
    (s.pinWrite i b).txd i = b ∧
    (s.pinWrite i b).pinWrite i b = s.pinWrite i b ∧
    ∀ port bit, ((s.pinWrite i b).portData.read port).testBit bit =
      if port = (s.ch.get i).port ∧ bit = k then b else (s.portData.read port).testBit bit

/-- 20_memory.md R43: a mode switch sets the channel's bit, and no command clears a mode bit. -/
def Obligations.OutputModeIsNeverUndone : Prop :=
  (∀ (s : State) (i : Fin 4), s.portMode.wf = true →
    s.pinMode i = { s with portMode := (s.pinMode i).portMode } ∧
    (∀ port, (s.pinMode i).portMode.read port =
      if port = (s.ch.get i).port then s.portMode.read port ||| (s.ch.get i).mask
      else s.portMode.read port) ∧
    ((s.ch.get i).mask ≠ 0 → (s.pinMode i).oe i = true)) ∧
  (∀ (s t : State) (i : Instr), s.portMode.wf = true → exec i s = .next t →
    ∀ port bit, (s.portMode.read port).testBit bit = true → (t.portMode.read port).testBit bit = true)

/-- 60_exceptions.md R166: ENV has a step iff `IE` is 1, so none inside a frame. -/
def Obligations.CriticalSectionMasksInterrupts : Prop :=
  ∀ (s : State) (a : PortAct), s.nextTurn = .env a →
    (s.ie = false → step s = .next { s with sched := s.sched.tail }) ∧
    (s.Inv → s.pos.critical = true → step s = .next { s with sched := s.sched.tail }) ∧
    (s.ie = true → step s = State.turn { s with sched := s.sched.tail } (.platform a))

/-- 20_memory.md R59: a step of ENV or of the platform changes exactly the one port bit it names, with an
instance or without, and never a channel bit: that has no step, and the model refuses it, inside CONSTRUCT
from the binding of the channel on (notes/assumptions/16.md). A bit that the port space does not have is the
model's fault (notes/assumptions/17.md). -/
def Obligations.EnvironmentChangesOneForeignBit : Prop :=
  ∀ (s : State) (a : PortAct),
    (s.cfg.nport ≤ a.port ∨ s.cfg.portW ≤ a.bit → s.turn (.platform a) = .fault .noSuchPort) ∧
    (a.port < s.cfg.nport → a.bit < s.cfg.portW →
      (∃ i, s.hasChannel i ∧ s.ownsBit i a.port a.bit) →
      s.turn (.platform a) = .refused .channelBitDuty) ∧
    (s.portData.wf = true → s.portMode.wf = true → a.port < s.cfg.nport → a.bit < s.cfg.portW →
      (∀ i, s.hasChannel i → ¬s.ownsBit i a.port a.bit) →
      ∃ t, s.turn (.platform a) = .next t ∧
        t = { s with portData := t.portData, portMode := t.portMode } ∧
        (∀ i, s.hasChannel i → t.line i = s.line i) ∧
        ∀ port bit,
          (t.portData.read port).testBit bit =
            (if a.reg = .data ∧ port = a.port ∧ bit = a.bit then a.value
              else (s.portData.read port).testBit bit) ∧
          (t.portMode.read port).testBit bit =
            (if a.reg = .mode ∧ port = a.port ∧ bit = a.bit then a.value
              else (s.portMode.read port).testBit bit))

/-- 10_state.md R31c, 60_exceptions.md R175: in a final state no command runs, and with an instance every
line shows the idle level. -/
def Obligations.FinalStateRestsIdle : Prop :=
  ∀ s : State, s.Inv → s.final = true →
    s.busy = false ∧ s.fault = 0 ∧ s.hasCommand = false ∧ s.pos = .idle ∧
    (s.constructed = true → ∀ i, s.line i = .level (!s.inv))
end

