-- ==== Sys2Proof/Laws/Lanes.lean ====
section
/-! SUPPORT. The laws of the four-lane record. -/

namespace Sys2Proof

variable {α : Type}

@[simp] theorem Lanes.get_set (l : Lanes α) (i j : Fin 4) (a : α) :
    (l.set i a).get j = if i = j then a else l.get j := by
  fin_cases i <;> fin_cases j <;> rfl

@[simp] theorem Lanes.get_ofFn (f : Fin 4 → α) (i : Fin 4) : (Lanes.ofFn f).get i = f i := by
  fin_cases i <;> rfl

theorem Lanes.ext_get {l m : Lanes α} (h : ∀ i, l.get i = m.get i) : l = m := by
  cases l; cases m
  have h0 := h 0; have h1 := h 1; have h2 := h 2; have h3 := h 3
  simp_all [Lanes.get]

@[simp] theorem Lanes.ofFn_get (l : Lanes α) : Lanes.ofFn l.get = l := Lanes.ext_get fun i => by simp

end Sys2Proof
end

