-- ==== Sys2Proof/Laws/Ports.lean ====
section
/-! SUPPORT. The laws of the port register files: read after write, the canonical form, one-bit accesses. -/

namespace Sys2Proof.Machine

@[simp] theorem PortFile.read_nil (p : Nat) : PortFile.read [] p = 0 := rfl

theorem PortFile.read_cons (a v : Nat) (f : PortFile) (p : Nat) :
    PortFile.read ((a, v) :: f) p = if a = p then v else PortFile.read f p := rfl

/-- Registers below the first listed one read 0. -/
theorem PortFile.read_eq_zero_of_lt {f : PortFile} {p : Nat} (h : ∀ x ∈ f, p < x.1) :
    PortFile.read f p = 0 := by
  induction f with
  | nil => rfl
  | cons x f ih =>
    obtain ⟨a, v⟩ := x
    have ha : p < a := h (a, v) (by simp)
    rw [PortFile.read_cons, if_neg (by omega)]
    exact ih fun y hy => h y (by simp [hy])

theorem PortFile.wf_iff (f : PortFile) :
    f.wf = true ↔ f.Pairwise (fun x y => x.1 < y.1) ∧ ∀ x ∈ f, x.2 ≠ 0 := by
  simp [PortFile.wf]

theorem PortFile.wf_cons (x : Nat × Nat) (f : PortFile) :
    PortFile.wf (x :: f) = true ↔ (∀ y ∈ f, x.1 < y.1) ∧ x.2 ≠ 0 ∧ f.wf = true := by
  simp only [PortFile.wf_iff, List.pairwise_cons, List.mem_cons, forall_eq_or_imp]
  tauto

/-- Every register of a written file is the written one or was listed before. -/
theorem PortFile.mem_write {f : PortFile} {p v : Nat} {x : Nat × Nat} (h : x ∈ f.write p v) :
    x = (p, v) ∨ x ∈ f := by
  induction f with
  | nil => simp only [PortFile.write, PortFile.cons] at h; split at h <;> simp_all
  | cons y f ih =>
    simp only [PortFile.write, PortFile.cons] at h
    split_ifs at h <;> simp only [List.mem_cons] at h ⊢ <;> grind

/-- A write keeps the canonical form. -/
theorem PortFile.wf_write {f : PortFile} (h : f.wf = true) (p v : Nat) : (f.write p v).wf = true := by
  induction f with
  | nil =>
    simp only [PortFile.write, PortFile.cons]
    split
    · exact h
    · simp_all [PortFile.wf_cons]
  | cons y f ih =>
    obtain ⟨a, w⟩ := y
    rw [PortFile.wf_cons] at h
    obtain ⟨h1, h2, h3⟩ := h
    simp only [PortFile.write, PortFile.cons]
    split_ifs with hlt hv heq hv
    · exact (PortFile.wf_cons _ _).2 ⟨h1, h2, h3⟩
    · refine (PortFile.wf_cons _ _).2 ⟨?_, hv, (PortFile.wf_cons _ _).2 ⟨h1, h2, h3⟩⟩
      rintro y hy
      rcases List.mem_cons.1 hy with rfl | hy
      · exact hlt
      · exact lt_trans hlt (h1 y hy)
    · exact h3
    · exact (PortFile.wf_cons _ _).2 ⟨fun y hy => heq ▸ h1 y hy, hv, h3⟩
    · refine (PortFile.wf_cons _ _).2 ⟨?_, h2, ih h3⟩
      intro y hy
      rcases PortFile.mem_write hy with rfl | hy
      · simp only; omega
      · exact h1 y hy

/-- Read after write, on a canonical file. -/
theorem PortFile.read_write {f : PortFile} (h : f.wf = true) (p v q : Nat) :
    (f.write p v).read q = if p = q then v else f.read q := by
  induction f with
  | nil => simp only [PortFile.write, PortFile.cons]; split <;> simp_all [PortFile.read]
  | cons y f ih =>
    obtain ⟨a, w⟩ := y
    rw [PortFile.wf_cons] at h
    obtain ⟨h1, h2, h3⟩ := h
    have hz : ∀ r, r ≤ a → PortFile.read f r = 0 := fun r hr =>
      PortFile.read_eq_zero_of_lt fun x hx => lt_of_le_of_lt hr (h1 x hx)
    have hz' := hz q
    simp only [PortFile.write, PortFile.cons]
    split_ifs <;> simp_all only [PortFile.read_cons] <;> grind

theorem PortFile.read_write_self {f : PortFile} (h : f.wf = true) (p v : Nat) :
    (f.write p v).read p = v := by simp [PortFile.read_write h]

theorem PortFile.read_write_of_ne {f : PortFile} (h : f.wf = true) {p q : Nat} (v : Nat) (hpq : p ≠ q) :
    (f.write p v).read q = f.read q := by simp [PortFile.read_write h, hpq]

/-- Bit `k` of a register whose mask bits were set. -/
@[simp] theorem testBit_setBits (v m k : Nat) : (setBits v m).testBit k = (v.testBit k || m.testBit k) := by
  simp [setBits]

/-- Bit `k` of a register whose mask bits were cleared. -/
@[simp] theorem testBit_clearBits (v m k : Nat) :
    (clearBits v m).testBit k = (v.testBit k && !m.testBit k) := by
  simp only [clearBits, Nat.testBit_xor, Nat.testBit_and]
  cases v.testBit k <;> cases m.testBit k <;> rfl

/-- All a one-bit access can do (20_memory.md R42, R43): the mask's bits of the register take the level,
every other bit of every register keeps its value. -/
theorem PortFile.testBit_drive {f : PortFile} (h : f.wf = true) (p m : Nat) (b : Bool) (q k : Nat) :
    ((f.drive p m b).read q).testBit k = if p = q ∧ m.testBit k = true then b else (f.read q).testBit k := by
  unfold PortFile.drive
  rw [PortFile.read_write h]
  by_cases hpq : p = q
  · subst hpq
    cases b <;> cases hm : m.testBit k <;> simp [hm]
  · simp [hpq]

theorem PortFile.wf_drive {f : PortFile} (h : f.wf = true) (p m : Nat) (b : Bool) :
    (f.drive p m b).wf = true := PortFile.wf_write h _ _

/-- Two canonical files that read alike are equal. -/
theorem PortFile.ext_read {f g : PortFile} (hf : f.wf = true) (hg : g.wf = true)
    (h : ∀ p, f.read p = g.read p) : f = g := by
  induction f generalizing g with
  | nil =>
    cases g with
    | nil => rfl
    | cons y g =>
      obtain ⟨b, w⟩ := y
      rw [PortFile.wf_cons] at hg
      have := h b
      rw [PortFile.read_cons, if_pos rfl] at this
      exact absurd this.symm hg.2.1
  | cons x f ih =>
    obtain ⟨a, v⟩ := x
    rw [PortFile.wf_cons] at hf
    cases g with
    | nil =>
      have := h a
      simp [PortFile.read_cons, hf.2.1] at this
    | cons y g =>
      obtain ⟨b, w⟩ := y
      rw [PortFile.wf_cons] at hg
      have hza : ∀ r, r ≤ a → PortFile.read f r = 0 := fun r hr =>
        PortFile.read_eq_zero_of_lt fun x hx => lt_of_le_of_lt hr (hf.1 x hx)
      have hzb : ∀ r, r ≤ b → PortFile.read g r = 0 := fun r hr =>
        PortFile.read_eq_zero_of_lt fun x hx => lt_of_le_of_lt hr (hg.1 x hx)
      have h1 := h a
      have h2 := h b
      simp only [PortFile.read_cons] at h1 h2
      have hab : a = b := by
        rcases lt_trichotomy a b with hlt | heq | hgt
        · have := hzb a hlt.le; simp only [if_neg (show b ≠ a by omega), if_true] at h1; simp_all
        · exact heq
        · have := hza b hgt.le; simp only [if_neg (show a ≠ b by omega), if_true] at h2; simp_all
      subst hab
      simp only [if_true] at h1
      subst h1
      congr 1
      refine ih hf.2.2 hg.2.2 fun p => ?_
      have := h p
      simp only [PortFile.read_cons] at this
      by_cases hp : a = p
      · subst hp; rw [hza a le_rfl, hzb a le_rfl]
      · simpa [hp] using this

end Sys2Proof.Machine
end

