-- ==== Sys2Proof/Laws/State.lean ====
section
/-! SUPPORT. One lemma per field per named update of the state, so that no proof unfolds a record update. -/

namespace Sys2Proof.Machine

variable (s : State)

@[simp] theorem State.pinWrite_constructed (i : Fin 4) (b : Level) :
    (s.pinWrite i b).constructed = s.constructed := rfl
@[simp] theorem State.pinWrite_ch (i : Fin 4) (b : Level) : (s.pinWrite i b).ch = s.ch := rfl
@[simp] theorem State.pinWrite_inv (i : Fin 4) (b : Level) : (s.pinWrite i b).inv = s.inv := rfl
@[simp] theorem State.pinWrite_pmode (i : Fin 4) (b : Level) :
    (s.pinWrite i b).pmode = s.pmode := rfl
@[simp] theorem State.pinWrite_stopb (i : Fin 4) (b : Level) :
    (s.pinWrite i b).stopb = s.stopb := rfl
@[simp] theorem State.pinWrite_cfgSet (i : Fin 4) (b : Level) :
    (s.pinWrite i b).cfgSet = s.cfgSet := rfl
@[simp] theorem State.pinWrite_timer (i : Fin 4) (b : Level) :
    (s.pinWrite i b).timer = s.timer := rfl
@[simp] theorem State.pinWrite_portData (i : Fin 4) (b : Level) :
    (s.pinWrite i b).portData = s.portData.drive (s.ch.get i).port (s.ch.get i).mask b := rfl
@[simp] theorem State.pinWrite_portMode (i : Fin 4) (b : Level) :
    (s.pinWrite i b).portMode = s.portMode := rfl
@[simp] theorem State.pinWrite_txb (i : Fin 4) (b : Level) : (s.pinWrite i b).txb = s.txb := rfl
@[simp] theorem State.pinWrite_q (i : Fin 4) (b : Level) : (s.pinWrite i b).q = s.q := rfl
@[simp] theorem State.pinWrite_busy (i : Fin 4) (b : Level) : (s.pinWrite i b).busy = s.busy := rfl
@[simp] theorem State.pinWrite_cmd (i : Fin 4) (b : Level) : (s.pinWrite i b).cmd = s.cmd := rfl
@[simp] theorem State.pinWrite_pos (i : Fin 4) (b : Level) : (s.pinWrite i b).pos = s.pos := rfl
@[simp] theorem State.pinWrite_res (i : Fin 4) (b : Level) : (s.pinWrite i b).res = s.res := rfl
@[simp] theorem State.pinWrite_ie (i : Fin 4) (b : Level) : (s.pinWrite i b).ie = s.ie := rfl
@[simp] theorem State.pinWrite_ieSaved (i : Fin 4) (b : Level) :
    (s.pinWrite i b).ieSaved = s.ieSaved := rfl
@[simp] theorem State.pinWrite_fault (i : Fin 4) (b : Level) :
    (s.pinWrite i b).fault = s.fault := rfl
@[simp] theorem State.pinWrite_cfg (i : Fin 4) (b : Level) : (s.pinWrite i b).cfg = s.cfg := rfl
@[simp] theorem State.pinWrite_host (i : Fin 4) (b : Level) : (s.pinWrite i b).host = s.host := rfl
@[simp] theorem State.pinWrite_sched (i : Fin 4) (b : Level) :
    (s.pinWrite i b).sched = s.sched := rfl

@[simp] theorem State.pinMode_constructed (i : Fin 4) :
    (s.pinMode i).constructed = s.constructed := rfl
@[simp] theorem State.pinMode_ch (i : Fin 4) : (s.pinMode i).ch = s.ch := rfl
@[simp] theorem State.pinMode_inv (i : Fin 4) : (s.pinMode i).inv = s.inv := rfl
@[simp] theorem State.pinMode_pmode (i : Fin 4) : (s.pinMode i).pmode = s.pmode := rfl
@[simp] theorem State.pinMode_stopb (i : Fin 4) : (s.pinMode i).stopb = s.stopb := rfl
@[simp] theorem State.pinMode_cfgSet (i : Fin 4) : (s.pinMode i).cfgSet = s.cfgSet := rfl
@[simp] theorem State.pinMode_timer (i : Fin 4) : (s.pinMode i).timer = s.timer := rfl
@[simp] theorem State.pinMode_portData (i : Fin 4) : (s.pinMode i).portData = s.portData := rfl
@[simp] theorem State.pinMode_portMode (i : Fin 4) :
    (s.pinMode i).portMode = s.portMode.drive (s.ch.get i).port (s.ch.get i).mask true := rfl
@[simp] theorem State.pinMode_txb (i : Fin 4) : (s.pinMode i).txb = s.txb := rfl
@[simp] theorem State.pinMode_q (i : Fin 4) : (s.pinMode i).q = s.q := rfl
@[simp] theorem State.pinMode_busy (i : Fin 4) : (s.pinMode i).busy = s.busy := rfl
@[simp] theorem State.pinMode_cmd (i : Fin 4) : (s.pinMode i).cmd = s.cmd := rfl
@[simp] theorem State.pinMode_pos (i : Fin 4) : (s.pinMode i).pos = s.pos := rfl
@[simp] theorem State.pinMode_res (i : Fin 4) : (s.pinMode i).res = s.res := rfl
@[simp] theorem State.pinMode_ie (i : Fin 4) : (s.pinMode i).ie = s.ie := rfl
@[simp] theorem State.pinMode_ieSaved (i : Fin 4) : (s.pinMode i).ieSaved = s.ieSaved := rfl
@[simp] theorem State.pinMode_fault (i : Fin 4) : (s.pinMode i).fault = s.fault := rfl
@[simp] theorem State.pinMode_cfg (i : Fin 4) : (s.pinMode i).cfg = s.cfg := rfl
@[simp] theorem State.pinMode_host (i : Fin 4) : (s.pinMode i).host = s.host := rfl
@[simp] theorem State.pinMode_sched (i : Fin 4) : (s.pinMode i).sched = s.sched := rfl

@[simp] theorem State.clockStart_constructed : (s.clockStart).constructed = s.constructed := rfl
@[simp] theorem State.clockStart_ch : (s.clockStart).ch = s.ch := rfl
@[simp] theorem State.clockStart_inv : (s.clockStart).inv = s.inv := rfl
@[simp] theorem State.clockStart_pmode : (s.clockStart).pmode = s.pmode := rfl
@[simp] theorem State.clockStart_stopb : (s.clockStart).stopb = s.stopb := rfl
@[simp] theorem State.clockStart_cfgSet : (s.clockStart).cfgSet = s.cfgSet := rfl
@[simp] theorem State.clockStart_timer :
    (s.clockStart).timer = .configure s.cfg.divFixed s.cfg.cmpFixed := rfl
@[simp] theorem State.clockStart_portData : (s.clockStart).portData = s.portData := rfl
@[simp] theorem State.clockStart_portMode : (s.clockStart).portMode = s.portMode := rfl
@[simp] theorem State.clockStart_txb : (s.clockStart).txb = s.txb := rfl
@[simp] theorem State.clockStart_q : (s.clockStart).q = s.q := rfl
@[simp] theorem State.clockStart_busy : (s.clockStart).busy = s.busy := rfl
@[simp] theorem State.clockStart_cmd : (s.clockStart).cmd = s.cmd := rfl
@[simp] theorem State.clockStart_pos : (s.clockStart).pos = s.pos := rfl
@[simp] theorem State.clockStart_res : (s.clockStart).res = s.res := rfl
@[simp] theorem State.clockStart_ie : (s.clockStart).ie = s.ie := rfl
@[simp] theorem State.clockStart_ieSaved : (s.clockStart).ieSaved = s.ieSaved := rfl
@[simp] theorem State.clockStart_fault : (s.clockStart).fault = s.fault := rfl
@[simp] theorem State.clockStart_cfg : (s.clockStart).cfg = s.cfg := rfl
@[simp] theorem State.clockStart_host : (s.clockStart).host = s.host := rfl
@[simp] theorem State.clockStart_sched : (s.clockStart).sched = s.sched := rfl

@[simp] theorem State.clockStop_constructed : (s.clockStop).constructed = s.constructed := rfl
@[simp] theorem State.clockStop_ch : (s.clockStop).ch = s.ch := rfl
@[simp] theorem State.clockStop_inv : (s.clockStop).inv = s.inv := rfl
@[simp] theorem State.clockStop_pmode : (s.clockStop).pmode = s.pmode := rfl
@[simp] theorem State.clockStop_stopb : (s.clockStop).stopb = s.stopb := rfl
@[simp] theorem State.clockStop_cfgSet : (s.clockStop).cfgSet = s.cfgSet := rfl
@[simp] theorem State.clockStop_timer : (s.clockStop).timer = { s.timer with run := false } := rfl
@[simp] theorem State.clockStop_portData : (s.clockStop).portData = s.portData := rfl
@[simp] theorem State.clockStop_portMode : (s.clockStop).portMode = s.portMode := rfl
@[simp] theorem State.clockStop_txb : (s.clockStop).txb = s.txb := rfl
@[simp] theorem State.clockStop_q : (s.clockStop).q = s.q := rfl
@[simp] theorem State.clockStop_busy : (s.clockStop).busy = s.busy := rfl
@[simp] theorem State.clockStop_cmd : (s.clockStop).cmd = s.cmd := rfl
@[simp] theorem State.clockStop_pos : (s.clockStop).pos = s.pos := rfl
@[simp] theorem State.clockStop_res : (s.clockStop).res = s.res := rfl
@[simp] theorem State.clockStop_ie : (s.clockStop).ie = s.ie := rfl
@[simp] theorem State.clockStop_ieSaved : (s.clockStop).ieSaved = s.ieSaved := rfl
@[simp] theorem State.clockStop_fault : (s.clockStop).fault = s.fault := rfl
@[simp] theorem State.clockStop_cfg : (s.clockStop).cfg = s.cfg := rfl
@[simp] theorem State.clockStop_host : (s.clockStop).host = s.host := rfl
@[simp] theorem State.clockStop_sched : (s.clockStop).sched = s.sched := rfl

@[simp] theorem State.goto_constructed (p : Pos) : (s.goto p).constructed = s.constructed := rfl
@[simp] theorem State.goto_ch (p : Pos) : (s.goto p).ch = s.ch := rfl
@[simp] theorem State.goto_inv (p : Pos) : (s.goto p).inv = s.inv := rfl
@[simp] theorem State.goto_pmode (p : Pos) : (s.goto p).pmode = s.pmode := rfl
@[simp] theorem State.goto_stopb (p : Pos) : (s.goto p).stopb = s.stopb := rfl
@[simp] theorem State.goto_cfgSet (p : Pos) : (s.goto p).cfgSet = s.cfgSet := rfl
@[simp] theorem State.goto_timer (p : Pos) : (s.goto p).timer = s.timer := rfl
@[simp] theorem State.goto_portData (p : Pos) : (s.goto p).portData = s.portData := rfl
@[simp] theorem State.goto_portMode (p : Pos) : (s.goto p).portMode = s.portMode := rfl
@[simp] theorem State.goto_txb (p : Pos) : (s.goto p).txb = s.txb := rfl
@[simp] theorem State.goto_q (p : Pos) : (s.goto p).q = s.q := rfl
@[simp] theorem State.goto_busy (p : Pos) : (s.goto p).busy = s.busy := rfl
@[simp] theorem State.goto_cmd (p : Pos) : (s.goto p).cmd = s.cmd := rfl
@[simp] theorem State.goto_pos (p : Pos) : (s.goto p).pos = p := rfl
@[simp] theorem State.goto_res (p : Pos) : (s.goto p).res = s.res := rfl
@[simp] theorem State.goto_ie (p : Pos) : (s.goto p).ie = s.ie := rfl
@[simp] theorem State.goto_ieSaved (p : Pos) : (s.goto p).ieSaved = s.ieSaved := rfl
@[simp] theorem State.goto_fault (p : Pos) : (s.goto p).fault = s.fault := rfl
@[simp] theorem State.goto_cfg (p : Pos) : (s.goto p).cfg = s.cfg := rfl
@[simp] theorem State.goto_host (p : Pos) : (s.goto p).host = s.host := rfl
@[simp] theorem State.goto_sched (p : Pos) : (s.goto p).sched = s.sched := rfl

@[simp] theorem State.enterCritical_constructed :
    (s.enterCritical).constructed = s.constructed := rfl
@[simp] theorem State.enterCritical_ch : (s.enterCritical).ch = s.ch := rfl
@[simp] theorem State.enterCritical_inv : (s.enterCritical).inv = s.inv := rfl
@[simp] theorem State.enterCritical_pmode : (s.enterCritical).pmode = s.pmode := rfl
@[simp] theorem State.enterCritical_stopb : (s.enterCritical).stopb = s.stopb := rfl
@[simp] theorem State.enterCritical_cfgSet : (s.enterCritical).cfgSet = s.cfgSet := rfl
@[simp] theorem State.enterCritical_timer : (s.enterCritical).timer = s.timer := rfl
@[simp] theorem State.enterCritical_portData : (s.enterCritical).portData = s.portData := rfl
@[simp] theorem State.enterCritical_portMode : (s.enterCritical).portMode = s.portMode := rfl
@[simp] theorem State.enterCritical_txb : (s.enterCritical).txb = s.txb := rfl
@[simp] theorem State.enterCritical_q : (s.enterCritical).q = s.q := rfl
@[simp] theorem State.enterCritical_busy : (s.enterCritical).busy = s.busy := rfl
@[simp] theorem State.enterCritical_cmd : (s.enterCritical).cmd = s.cmd := rfl
@[simp] theorem State.enterCritical_pos : (s.enterCritical).pos = s.pos := rfl
@[simp] theorem State.enterCritical_res : (s.enterCritical).res = s.res := rfl
@[simp] theorem State.enterCritical_ie : (s.enterCritical).ie = false := rfl
@[simp] theorem State.enterCritical_ieSaved : (s.enterCritical).ieSaved = s.ie := rfl
@[simp] theorem State.enterCritical_fault : (s.enterCritical).fault = s.fault := rfl
@[simp] theorem State.enterCritical_cfg : (s.enterCritical).cfg = s.cfg := rfl
@[simp] theorem State.enterCritical_host : (s.enterCritical).host = s.host := rfl
@[simp] theorem State.enterCritical_sched : (s.enterCritical).sched = s.sched := rfl

@[simp] theorem State.leaveCritical_constructed :
    (s.leaveCritical).constructed = s.constructed := rfl
@[simp] theorem State.leaveCritical_ch : (s.leaveCritical).ch = s.ch := rfl
@[simp] theorem State.leaveCritical_inv : (s.leaveCritical).inv = s.inv := rfl
@[simp] theorem State.leaveCritical_pmode : (s.leaveCritical).pmode = s.pmode := rfl
@[simp] theorem State.leaveCritical_stopb : (s.leaveCritical).stopb = s.stopb := rfl
@[simp] theorem State.leaveCritical_cfgSet : (s.leaveCritical).cfgSet = s.cfgSet := rfl
@[simp] theorem State.leaveCritical_timer : (s.leaveCritical).timer = s.timer := rfl
@[simp] theorem State.leaveCritical_portData : (s.leaveCritical).portData = s.portData := rfl
@[simp] theorem State.leaveCritical_portMode : (s.leaveCritical).portMode = s.portMode := rfl
@[simp] theorem State.leaveCritical_txb : (s.leaveCritical).txb = s.txb := rfl
@[simp] theorem State.leaveCritical_q : (s.leaveCritical).q = s.q := rfl
@[simp] theorem State.leaveCritical_busy : (s.leaveCritical).busy = s.busy := rfl
@[simp] theorem State.leaveCritical_cmd : (s.leaveCritical).cmd = s.cmd := rfl
@[simp] theorem State.leaveCritical_pos : (s.leaveCritical).pos = s.pos := rfl
@[simp] theorem State.leaveCritical_res : (s.leaveCritical).res = s.res := rfl
@[simp] theorem State.leaveCritical_ie : (s.leaveCritical).ie = s.ieSaved := rfl
@[simp] theorem State.leaveCritical_ieSaved : (s.leaveCritical).ieSaved = s.ieSaved := rfl
@[simp] theorem State.leaveCritical_fault : (s.leaveCritical).fault = s.fault := rfl
@[simp] theorem State.leaveCritical_cfg : (s.leaveCritical).cfg = s.cfg := rfl
@[simp] theorem State.leaveCritical_host : (s.leaveCritical).host = s.host := rfl
@[simp] theorem State.leaveCritical_sched : (s.leaveCritical).sched = s.sched := rfl

@[simp] theorem State.complete_constructed : (s.complete).constructed = s.constructed := rfl
@[simp] theorem State.complete_ch : (s.complete).ch = s.ch := rfl
@[simp] theorem State.complete_inv : (s.complete).inv = s.inv := rfl
@[simp] theorem State.complete_pmode : (s.complete).pmode = s.pmode := rfl
@[simp] theorem State.complete_stopb : (s.complete).stopb = s.stopb := rfl
@[simp] theorem State.complete_cfgSet : (s.complete).cfgSet = s.cfgSet := rfl
@[simp] theorem State.complete_timer : (s.complete).timer = s.timer := rfl
@[simp] theorem State.complete_portData : (s.complete).portData = s.portData := rfl
@[simp] theorem State.complete_portMode : (s.complete).portMode = s.portMode := rfl
@[simp] theorem State.complete_txb : (s.complete).txb = s.txb := rfl
@[simp] theorem State.complete_q : (s.complete).q = s.q := rfl
@[simp] theorem State.complete_busy : (s.complete).busy = false := rfl
@[simp] theorem State.complete_cmd : (s.complete).cmd = s.cmd := rfl
@[simp] theorem State.complete_pos : (s.complete).pos = .idle := rfl
@[simp] theorem State.complete_res : (s.complete).res = s.res := rfl
@[simp] theorem State.complete_ie : (s.complete).ie = s.ie := rfl
@[simp] theorem State.complete_ieSaved : (s.complete).ieSaved = s.ieSaved := rfl
@[simp] theorem State.complete_fault : (s.complete).fault = s.fault := rfl
@[simp] theorem State.complete_cfg : (s.complete).cfg = s.cfg := rfl
@[simp] theorem State.complete_host : (s.complete).host = s.host := rfl
@[simp] theorem State.complete_sched : (s.complete).sched = s.sched := rfl

@[simp] theorem State.completeWith_constructed (v : BitVec 32) :
    (s.completeWith v).constructed = s.constructed := rfl
@[simp] theorem State.completeWith_ch (v : BitVec 32) : (s.completeWith v).ch = s.ch := rfl
@[simp] theorem State.completeWith_inv (v : BitVec 32) : (s.completeWith v).inv = s.inv := rfl
@[simp] theorem State.completeWith_pmode (v : BitVec 32) : (s.completeWith v).pmode = s.pmode := rfl
@[simp] theorem State.completeWith_stopb (v : BitVec 32) : (s.completeWith v).stopb = s.stopb := rfl
@[simp] theorem State.completeWith_cfgSet (v : BitVec 32) :
    (s.completeWith v).cfgSet = s.cfgSet := rfl
@[simp] theorem State.completeWith_timer (v : BitVec 32) : (s.completeWith v).timer = s.timer := rfl
@[simp] theorem State.completeWith_portData (v : BitVec 32) :
    (s.completeWith v).portData = s.portData := rfl
@[simp] theorem State.completeWith_portMode (v : BitVec 32) :
    (s.completeWith v).portMode = s.portMode := rfl
@[simp] theorem State.completeWith_txb (v : BitVec 32) : (s.completeWith v).txb = s.txb := rfl
@[simp] theorem State.completeWith_q (v : BitVec 32) : (s.completeWith v).q = s.q := rfl
@[simp] theorem State.completeWith_busy (v : BitVec 32) : (s.completeWith v).busy = false := rfl
@[simp] theorem State.completeWith_cmd (v : BitVec 32) : (s.completeWith v).cmd = s.cmd := rfl
@[simp] theorem State.completeWith_pos (v : BitVec 32) : (s.completeWith v).pos = .idle := rfl
@[simp] theorem State.completeWith_res (v : BitVec 32) : (s.completeWith v).res = v := rfl
@[simp] theorem State.completeWith_ie (v : BitVec 32) : (s.completeWith v).ie = s.ie := rfl
@[simp] theorem State.completeWith_ieSaved (v : BitVec 32) :
    (s.completeWith v).ieSaved = s.ieSaved := rfl
@[simp] theorem State.completeWith_fault (v : BitVec 32) : (s.completeWith v).fault = s.fault := rfl
@[simp] theorem State.completeWith_cfg (v : BitVec 32) : (s.completeWith v).cfg = s.cfg := rfl
@[simp] theorem State.completeWith_host (v : BitVec 32) : (s.completeWith v).host = s.host := rfl
@[simp] theorem State.completeWith_sched (v : BitVec 32) : (s.completeWith v).sched = s.sched := rfl

@[simp] theorem State.accept_constructed (w : CmdWord) :
    (s.accept w).constructed = s.constructed := rfl
@[simp] theorem State.accept_ch (w : CmdWord) : (s.accept w).ch = s.ch := rfl
@[simp] theorem State.accept_inv (w : CmdWord) : (s.accept w).inv = s.inv := rfl
@[simp] theorem State.accept_pmode (w : CmdWord) : (s.accept w).pmode = s.pmode := rfl
@[simp] theorem State.accept_stopb (w : CmdWord) : (s.accept w).stopb = s.stopb := rfl
@[simp] theorem State.accept_cfgSet (w : CmdWord) : (s.accept w).cfgSet = s.cfgSet := rfl
@[simp] theorem State.accept_timer (w : CmdWord) : (s.accept w).timer = s.timer := rfl
@[simp] theorem State.accept_portData (w : CmdWord) : (s.accept w).portData = s.portData := rfl
@[simp] theorem State.accept_portMode (w : CmdWord) : (s.accept w).portMode = s.portMode := rfl
@[simp] theorem State.accept_txb (w : CmdWord) : (s.accept w).txb = s.txb := rfl
@[simp] theorem State.accept_q (w : CmdWord) : (s.accept w).q = s.q := rfl
@[simp] theorem State.accept_busy (w : CmdWord) : (s.accept w).busy = true := rfl
@[simp] theorem State.accept_cmd (w : CmdWord) : (s.accept w).cmd = w := rfl
@[simp] theorem State.accept_pos (w : CmdWord) : (s.accept w).pos = .adm := rfl
@[simp] theorem State.accept_res (w : CmdWord) : (s.accept w).res = s.res := rfl
@[simp] theorem State.accept_ie (w : CmdWord) : (s.accept w).ie = s.ie := rfl
@[simp] theorem State.accept_ieSaved (w : CmdWord) : (s.accept w).ieSaved = s.ieSaved := rfl
@[simp] theorem State.accept_fault (w : CmdWord) : (s.accept w).fault = s.fault := rfl
@[simp] theorem State.accept_cfg (w : CmdWord) : (s.accept w).cfg = s.cfg := rfl
@[simp] theorem State.accept_host (w : CmdWord) : (s.accept w).host = s.host := rfl
@[simp] theorem State.accept_sched (w : CmdWord) : (s.accept w).sched = s.sched := rfl

@[simp] theorem State.raiseFault_constructed (c : FaultCode) :
    (s.raiseFault c).constructed = s.constructed := by unfold State.raiseFault; split <;> rfl
@[simp] theorem State.raiseFault_ch (c : FaultCode) :
    (s.raiseFault c).ch = s.ch := by unfold State.raiseFault; split <;> rfl
@[simp] theorem State.raiseFault_inv (c : FaultCode) :
    (s.raiseFault c).inv = s.inv := by unfold State.raiseFault; split <;> rfl
@[simp] theorem State.raiseFault_pmode (c : FaultCode) :
    (s.raiseFault c).pmode = s.pmode := by unfold State.raiseFault; split <;> rfl
@[simp] theorem State.raiseFault_stopb (c : FaultCode) :
    (s.raiseFault c).stopb = s.stopb := by unfold State.raiseFault; split <;> rfl
@[simp] theorem State.raiseFault_cfgSet (c : FaultCode) :
    (s.raiseFault c).cfgSet = s.cfgSet := by unfold State.raiseFault; split <;> rfl
@[simp] theorem State.raiseFault_timer (c : FaultCode) :
    (s.raiseFault c).timer = s.timer := by unfold State.raiseFault; split <;> rfl
@[simp] theorem State.raiseFault_portData (c : FaultCode) :
    (s.raiseFault c).portData = s.portData := by unfold State.raiseFault; split <;> rfl
@[simp] theorem State.raiseFault_portMode (c : FaultCode) :
    (s.raiseFault c).portMode = s.portMode := by unfold State.raiseFault; split <;> rfl
@[simp] theorem State.raiseFault_txb (c : FaultCode) :
    (s.raiseFault c).txb = s.txb := by unfold State.raiseFault; split <;> rfl
@[simp] theorem State.raiseFault_q (c : FaultCode) :
    (s.raiseFault c).q = s.q := by unfold State.raiseFault; split <;> rfl
@[simp] theorem State.raiseFault_busy (c : FaultCode) :
    (s.raiseFault c).busy = s.busy := by unfold State.raiseFault; split <;> rfl
@[simp] theorem State.raiseFault_cmd (c : FaultCode) :
    (s.raiseFault c).cmd = s.cmd := by unfold State.raiseFault; split <;> rfl
@[simp] theorem State.raiseFault_pos (c : FaultCode) :
    (s.raiseFault c).pos = s.pos := by unfold State.raiseFault; split <;> rfl
@[simp] theorem State.raiseFault_res (c : FaultCode) :
    (s.raiseFault c).res = s.res := by unfold State.raiseFault; split <;> rfl
@[simp] theorem State.raiseFault_ie (c : FaultCode) :
    (s.raiseFault c).ie = s.ie := by unfold State.raiseFault; split <;> rfl
@[simp] theorem State.raiseFault_ieSaved (c : FaultCode) :
    (s.raiseFault c).ieSaved = s.ieSaved := by unfold State.raiseFault; split <;> rfl
@[simp] theorem State.raiseFault_fault (c : FaultCode) :
    (s.raiseFault c).fault = if s.fault = 0 then c.bits else s.fault := by unfold State.raiseFault; split <;> rfl
@[simp] theorem State.raiseFault_cfg (c : FaultCode) :
    (s.raiseFault c).cfg = s.cfg := by unfold State.raiseFault; split <;> rfl
@[simp] theorem State.raiseFault_host (c : FaultCode) :
    (s.raiseFault c).host = s.host := by unfold State.raiseFault; split <;> rfl
@[simp] theorem State.raiseFault_sched (c : FaultCode) :
    (s.raiseFault c).sched = s.sched := by unfold State.raiseFault; split <;> rfl

@[simp] theorem State.illegalCommand_constructed : (s.illegalCommand).constructed = s.constructed := by
  unfold State.illegalCommand; split <;> simp
@[simp] theorem State.illegalCommand_ch : (s.illegalCommand).ch = s.ch := by
  unfold State.illegalCommand; split <;> simp
@[simp] theorem State.illegalCommand_inv : (s.illegalCommand).inv = s.inv := by
  unfold State.illegalCommand; split <;> simp
@[simp] theorem State.illegalCommand_pmode : (s.illegalCommand).pmode = s.pmode := by
  unfold State.illegalCommand; split <;> simp
@[simp] theorem State.illegalCommand_stopb : (s.illegalCommand).stopb = s.stopb := by
  unfold State.illegalCommand; split <;> simp
@[simp] theorem State.illegalCommand_cfgSet : (s.illegalCommand).cfgSet = s.cfgSet := by
  unfold State.illegalCommand; split <;> simp
@[simp] theorem State.illegalCommand_timer : (s.illegalCommand).timer = s.timer := by
  unfold State.illegalCommand; split <;> simp
@[simp] theorem State.illegalCommand_portData : (s.illegalCommand).portData = s.portData := by
  unfold State.illegalCommand; split <;> simp
@[simp] theorem State.illegalCommand_portMode : (s.illegalCommand).portMode = s.portMode := by
  unfold State.illegalCommand; split <;> simp
@[simp] theorem State.illegalCommand_txb : (s.illegalCommand).txb = s.txb := by
  unfold State.illegalCommand; split <;> simp
@[simp] theorem State.illegalCommand_q : (s.illegalCommand).q = s.q := by
  unfold State.illegalCommand; split <;> simp
@[simp] theorem State.illegalCommand_busy : (s.illegalCommand).busy = s.busy := by
  unfold State.illegalCommand; split <;> simp
@[simp] theorem State.illegalCommand_cmd : (s.illegalCommand).cmd = s.cmd := by
  unfold State.illegalCommand; split <;> simp
@[simp] theorem State.illegalCommand_pos : (s.illegalCommand).pos = s.pos := by
  unfold State.illegalCommand; split <;> simp
@[simp] theorem State.illegalCommand_res : (s.illegalCommand).res = s.res := by
  unfold State.illegalCommand; split <;> simp
@[simp] theorem State.illegalCommand_ie : (s.illegalCommand).ie = s.ie := by
  unfold State.illegalCommand; split <;> simp
@[simp] theorem State.illegalCommand_ieSaved : (s.illegalCommand).ieSaved = s.ieSaved := by
  unfold State.illegalCommand; split <;> simp
@[simp] theorem State.illegalCommand_fault : (s.illegalCommand).fault = if s.pos = .adm ∧ s.fault = 0 then 1 else s.fault := by
  unfold State.illegalCommand; split <;> simp_all [FaultCode.bits]
@[simp] theorem State.illegalCommand_cfg : (s.illegalCommand).cfg = s.cfg := by
  unfold State.illegalCommand; split <;> simp
@[simp] theorem State.illegalCommand_host : (s.illegalCommand).host = s.host := by
  unfold State.illegalCommand; split <;> simp
@[simp] theorem State.illegalCommand_sched : (s.illegalCommand).sched = s.sched := by
  unfold State.illegalCommand; split <;> simp

@[simp] theorem State.awaitTick_constructed (p : Pos) :
    (s.awaitTick p).constructed = s.constructed := by unfold State.awaitTick; split <;> rfl
@[simp] theorem State.awaitTick_ch (p : Pos) :
    (s.awaitTick p).ch = s.ch := by unfold State.awaitTick; split <;> rfl
@[simp] theorem State.awaitTick_inv (p : Pos) :
    (s.awaitTick p).inv = s.inv := by unfold State.awaitTick; split <;> rfl
@[simp] theorem State.awaitTick_pmode (p : Pos) :
    (s.awaitTick p).pmode = s.pmode := by unfold State.awaitTick; split <;> rfl
@[simp] theorem State.awaitTick_stopb (p : Pos) :
    (s.awaitTick p).stopb = s.stopb := by unfold State.awaitTick; split <;> rfl
@[simp] theorem State.awaitTick_cfgSet (p : Pos) :
    (s.awaitTick p).cfgSet = s.cfgSet := by unfold State.awaitTick; split <;> rfl
@[simp] theorem State.awaitTick_timer (p : Pos) : (s.awaitTick p).timer = { s.timer with ocf := false } := by
  unfold State.awaitTick; split
  · rfl
  · next h => rw [Bool.not_eq_true] at h; rw [← h]
@[simp] theorem State.awaitTick_portData (p : Pos) :
    (s.awaitTick p).portData = s.portData := by unfold State.awaitTick; split <;> rfl
@[simp] theorem State.awaitTick_portMode (p : Pos) :
    (s.awaitTick p).portMode = s.portMode := by unfold State.awaitTick; split <;> rfl
@[simp] theorem State.awaitTick_txb (p : Pos) :
    (s.awaitTick p).txb = s.txb := by unfold State.awaitTick; split <;> rfl
@[simp] theorem State.awaitTick_q (p : Pos) :
    (s.awaitTick p).q = s.q := by unfold State.awaitTick; split <;> rfl
@[simp] theorem State.awaitTick_busy (p : Pos) :
    (s.awaitTick p).busy = s.busy := by unfold State.awaitTick; split <;> rfl
@[simp] theorem State.awaitTick_cmd (p : Pos) :
    (s.awaitTick p).cmd = s.cmd := by unfold State.awaitTick; split <;> rfl
@[simp] theorem State.awaitTick_pos (p : Pos) :
    (s.awaitTick p).pos = if s.timer.ocf then p else s.pos := by unfold State.awaitTick; split <;> rfl
@[simp] theorem State.awaitTick_res (p : Pos) :
    (s.awaitTick p).res = s.res := by unfold State.awaitTick; split <;> rfl
@[simp] theorem State.awaitTick_ie (p : Pos) :
    (s.awaitTick p).ie = s.ie := by unfold State.awaitTick; split <;> rfl
@[simp] theorem State.awaitTick_ieSaved (p : Pos) :
    (s.awaitTick p).ieSaved = s.ieSaved := by unfold State.awaitTick; split <;> rfl
@[simp] theorem State.awaitTick_fault (p : Pos) :
    (s.awaitTick p).fault = s.fault := by unfold State.awaitTick; split <;> rfl
@[simp] theorem State.awaitTick_cfg (p : Pos) :
    (s.awaitTick p).cfg = s.cfg := by unfold State.awaitTick; split <;> rfl
@[simp] theorem State.awaitTick_host (p : Pos) :
    (s.awaitTick p).host = s.host := by unfold State.awaitTick; split <;> rfl
@[simp] theorem State.awaitTick_sched (p : Pos) :
    (s.awaitTick p).sched = s.sched := by unfold State.awaitTick; split <;> rfl

@[simp] theorem State.admitOrFault_constructed (i : Instr) (p : Pos) :
    (s.admitOrFault i p).constructed = s.constructed := by unfold State.admitOrFault; split <;> simp
@[simp] theorem State.admitOrFault_ch (i : Instr) (p : Pos) :
    (s.admitOrFault i p).ch = s.ch := by unfold State.admitOrFault; split <;> simp
@[simp] theorem State.admitOrFault_inv (i : Instr) (p : Pos) :
    (s.admitOrFault i p).inv = s.inv := by unfold State.admitOrFault; split <;> simp
@[simp] theorem State.admitOrFault_pmode (i : Instr) (p : Pos) :
    (s.admitOrFault i p).pmode = s.pmode := by unfold State.admitOrFault; split <;> simp
@[simp] theorem State.admitOrFault_stopb (i : Instr) (p : Pos) :
    (s.admitOrFault i p).stopb = s.stopb := by unfold State.admitOrFault; split <;> simp
@[simp] theorem State.admitOrFault_cfgSet (i : Instr) (p : Pos) :
    (s.admitOrFault i p).cfgSet = s.cfgSet := by unfold State.admitOrFault; split <;> simp
@[simp] theorem State.admitOrFault_timer (i : Instr) (p : Pos) :
    (s.admitOrFault i p).timer = s.timer := by unfold State.admitOrFault; split <;> simp
@[simp] theorem State.admitOrFault_portData (i : Instr) (p : Pos) :
    (s.admitOrFault i p).portData = s.portData := by unfold State.admitOrFault; split <;> simp
@[simp] theorem State.admitOrFault_portMode (i : Instr) (p : Pos) :
    (s.admitOrFault i p).portMode = s.portMode := by unfold State.admitOrFault; split <;> simp
@[simp] theorem State.admitOrFault_txb (i : Instr) (p : Pos) :
    (s.admitOrFault i p).txb = s.txb := by unfold State.admitOrFault; split <;> simp
@[simp] theorem State.admitOrFault_q (i : Instr) (p : Pos) :
    (s.admitOrFault i p).q = s.q := by unfold State.admitOrFault; split <;> simp
@[simp] theorem State.admitOrFault_busy (i : Instr) (p : Pos) :
    (s.admitOrFault i p).busy = s.busy := by unfold State.admitOrFault; split <;> simp
@[simp] theorem State.admitOrFault_cmd (i : Instr) (p : Pos) :
    (s.admitOrFault i p).cmd = s.cmd := by unfold State.admitOrFault; split <;> simp
@[simp] theorem State.admitOrFault_pos (i : Instr) (p : Pos) : (s.admitOrFault i p).pos = if admission s i = none then p else s.pos := by
  unfold State.admitOrFault; split <;> simp_all
@[simp] theorem State.admitOrFault_res (i : Instr) (p : Pos) :
    (s.admitOrFault i p).res = s.res := by unfold State.admitOrFault; split <;> simp
@[simp] theorem State.admitOrFault_ie (i : Instr) (p : Pos) :
    (s.admitOrFault i p).ie = s.ie := by unfold State.admitOrFault; split <;> simp
@[simp] theorem State.admitOrFault_ieSaved (i : Instr) (p : Pos) :
    (s.admitOrFault i p).ieSaved = s.ieSaved := by unfold State.admitOrFault; split <;> simp
@[simp] theorem State.admitOrFault_cfg (i : Instr) (p : Pos) :
    (s.admitOrFault i p).cfg = s.cfg := by unfold State.admitOrFault; split <;> simp
@[simp] theorem State.admitOrFault_host (i : Instr) (p : Pos) :
    (s.admitOrFault i p).host = s.host := by unfold State.admitOrFault; split <;> simp
@[simp] theorem State.admitOrFault_sched (i : Instr) (p : Pos) :
    (s.admitOrFault i p).sched = s.sched := by unfold State.admitOrFault; split <;> simp

@[simp] theorem State.drvSlot_constructed (l : Slot) (i : Fin 4) :
    (s.drvSlot l i).constructed = s.constructed := by unfold State.drvSlot; split <;> rfl
@[simp] theorem State.drvSlot_ch (l : Slot) (i : Fin 4) :
    (s.drvSlot l i).ch = s.ch := by unfold State.drvSlot; split <;> rfl
@[simp] theorem State.drvSlot_inv (l : Slot) (i : Fin 4) :
    (s.drvSlot l i).inv = s.inv := by unfold State.drvSlot; split <;> rfl
@[simp] theorem State.drvSlot_pmode (l : Slot) (i : Fin 4) :
    (s.drvSlot l i).pmode = s.pmode := by unfold State.drvSlot; split <;> rfl
@[simp] theorem State.drvSlot_stopb (l : Slot) (i : Fin 4) :
    (s.drvSlot l i).stopb = s.stopb := by unfold State.drvSlot; split <;> rfl
@[simp] theorem State.drvSlot_cfgSet (l : Slot) (i : Fin 4) :
    (s.drvSlot l i).cfgSet = s.cfgSet := by unfold State.drvSlot; split <;> rfl
@[simp] theorem State.drvSlot_timer (l : Slot) (i : Fin 4) :
    (s.drvSlot l i).timer = s.timer := by unfold State.drvSlot; split <;> rfl
@[simp] theorem State.drvSlot_portMode (l : Slot) (i : Fin 4) :
    (s.drvSlot l i).portMode = s.portMode := by unfold State.drvSlot; split <;> rfl
@[simp] theorem State.drvSlot_txb (l : Slot) (i : Fin 4) :
    (s.drvSlot l i).txb = s.txb := by unfold State.drvSlot; split <;> rfl
@[simp] theorem State.drvSlot_q (l : Slot) (i : Fin 4) :
    (s.drvSlot l i).q = s.q := by unfold State.drvSlot; split <;> rfl
@[simp] theorem State.drvSlot_busy (l : Slot) (i : Fin 4) :
    (s.drvSlot l i).busy = s.busy := by unfold State.drvSlot; split <;> rfl
@[simp] theorem State.drvSlot_cmd (l : Slot) (i : Fin 4) :
    (s.drvSlot l i).cmd = s.cmd := by unfold State.drvSlot; split <;> rfl
@[simp] theorem State.drvSlot_pos (l : Slot) (i : Fin 4) :
    (s.drvSlot l i).pos = s.pos := by unfold State.drvSlot; split <;> rfl
@[simp] theorem State.drvSlot_res (l : Slot) (i : Fin 4) :
    (s.drvSlot l i).res = s.res := by unfold State.drvSlot; split <;> rfl
@[simp] theorem State.drvSlot_ie (l : Slot) (i : Fin 4) :
    (s.drvSlot l i).ie = s.ie := by unfold State.drvSlot; split <;> rfl
@[simp] theorem State.drvSlot_ieSaved (l : Slot) (i : Fin 4) :
    (s.drvSlot l i).ieSaved = s.ieSaved := by unfold State.drvSlot; split <;> rfl
@[simp] theorem State.drvSlot_fault (l : Slot) (i : Fin 4) :
    (s.drvSlot l i).fault = s.fault := by unfold State.drvSlot; split <;> rfl
@[simp] theorem State.drvSlot_cfg (l : Slot) (i : Fin 4) :
    (s.drvSlot l i).cfg = s.cfg := by unfold State.drvSlot; split <;> rfl
@[simp] theorem State.drvSlot_host (l : Slot) (i : Fin 4) :
    (s.drvSlot l i).host = s.host := by unfold State.drvSlot; split <;> rfl
@[simp] theorem State.drvSlot_sched (l : Slot) (i : Fin 4) :
    (s.drvSlot l i).sched = s.sched := by unfold State.drvSlot; split <;> rfl

@[simp] theorem State.tmrClk_constructed :
    (s.tmrClk).constructed = s.constructed := by unfold State.tmrClk; split <;> rfl
@[simp] theorem State.tmrClk_ch : (s.tmrClk).ch = s.ch := by unfold State.tmrClk; split <;> rfl
@[simp] theorem State.tmrClk_inv : (s.tmrClk).inv = s.inv := by unfold State.tmrClk; split <;> rfl
@[simp] theorem State.tmrClk_pmode :
    (s.tmrClk).pmode = s.pmode := by unfold State.tmrClk; split <;> rfl
@[simp] theorem State.tmrClk_stopb :
    (s.tmrClk).stopb = s.stopb := by unfold State.tmrClk; split <;> rfl
@[simp] theorem State.tmrClk_cfgSet :
    (s.tmrClk).cfgSet = s.cfgSet := by unfold State.tmrClk; split <;> rfl
@[simp] theorem State.tmrClk_timer :
    (s.tmrClk).timer = if s.timer.clkMatches && !s.slotOpen then s.timer else s.timer.clk := by unfold State.tmrClk; split <;> rfl
@[simp] theorem State.tmrClk_portData :
    (s.tmrClk).portData = s.portData := by unfold State.tmrClk; split <;> rfl
@[simp] theorem State.tmrClk_portMode :
    (s.tmrClk).portMode = s.portMode := by unfold State.tmrClk; split <;> rfl
@[simp] theorem State.tmrClk_txb : (s.tmrClk).txb = s.txb := by unfold State.tmrClk; split <;> rfl
@[simp] theorem State.tmrClk_q : (s.tmrClk).q = s.q := by unfold State.tmrClk; split <;> rfl
@[simp] theorem State.tmrClk_busy :
    (s.tmrClk).busy = s.busy := by unfold State.tmrClk; split <;> rfl
@[simp] theorem State.tmrClk_cmd : (s.tmrClk).cmd = s.cmd := by unfold State.tmrClk; split <;> rfl
@[simp] theorem State.tmrClk_pos : (s.tmrClk).pos = s.pos := by unfold State.tmrClk; split <;> rfl
@[simp] theorem State.tmrClk_res : (s.tmrClk).res = s.res := by unfold State.tmrClk; split <;> rfl
@[simp] theorem State.tmrClk_ie : (s.tmrClk).ie = s.ie := by unfold State.tmrClk; split <;> rfl
@[simp] theorem State.tmrClk_ieSaved :
    (s.tmrClk).ieSaved = s.ieSaved := by unfold State.tmrClk; split <;> rfl
@[simp] theorem State.tmrClk_fault :
    (s.tmrClk).fault = s.fault := by unfold State.tmrClk; split <;> rfl
@[simp] theorem State.tmrClk_cfg : (s.tmrClk).cfg = s.cfg := by unfold State.tmrClk; split <;> rfl
@[simp] theorem State.tmrClk_host :
    (s.tmrClk).host = s.host := by unfold State.tmrClk; split <;> rfl
@[simp] theorem State.tmrClk_sched :
    (s.tmrClk).sched = s.sched := by unfold State.tmrClk; split <;> rfl

@[simp] theorem State.tmrMatch_constructed :
    (s.tmrMatch).constructed = s.constructed := by unfold State.tmrMatch; split <;> rfl
@[simp] theorem State.tmrMatch_ch :
    (s.tmrMatch).ch = s.ch := by unfold State.tmrMatch; split <;> rfl
@[simp] theorem State.tmrMatch_inv :
    (s.tmrMatch).inv = s.inv := by unfold State.tmrMatch; split <;> rfl
@[simp] theorem State.tmrMatch_pmode :
    (s.tmrMatch).pmode = s.pmode := by unfold State.tmrMatch; split <;> rfl
@[simp] theorem State.tmrMatch_stopb :
    (s.tmrMatch).stopb = s.stopb := by unfold State.tmrMatch; split <;> rfl
@[simp] theorem State.tmrMatch_cfgSet :
    (s.tmrMatch).cfgSet = s.cfgSet := by unfold State.tmrMatch; split <;> rfl
@[simp] theorem State.tmrMatch_timer :
    (s.tmrMatch).timer = if s.matchEnabled then s.timer.matchEvent else s.timer := by unfold State.tmrMatch; split <;> rfl
@[simp] theorem State.tmrMatch_portData :
    (s.tmrMatch).portData = s.portData := by unfold State.tmrMatch; split <;> rfl
@[simp] theorem State.tmrMatch_portMode :
    (s.tmrMatch).portMode = s.portMode := by unfold State.tmrMatch; split <;> rfl
@[simp] theorem State.tmrMatch_txb :
    (s.tmrMatch).txb = s.txb := by unfold State.tmrMatch; split <;> rfl
@[simp] theorem State.tmrMatch_q : (s.tmrMatch).q = s.q := by unfold State.tmrMatch; split <;> rfl
@[simp] theorem State.tmrMatch_busy :
    (s.tmrMatch).busy = s.busy := by unfold State.tmrMatch; split <;> rfl
@[simp] theorem State.tmrMatch_cmd :
    (s.tmrMatch).cmd = s.cmd := by unfold State.tmrMatch; split <;> rfl
@[simp] theorem State.tmrMatch_pos :
    (s.tmrMatch).pos = s.pos := by unfold State.tmrMatch; split <;> rfl
@[simp] theorem State.tmrMatch_res :
    (s.tmrMatch).res = s.res := by unfold State.tmrMatch; split <;> rfl
@[simp] theorem State.tmrMatch_ie :
    (s.tmrMatch).ie = s.ie := by unfold State.tmrMatch; split <;> rfl
@[simp] theorem State.tmrMatch_ieSaved :
    (s.tmrMatch).ieSaved = s.ieSaved := by unfold State.tmrMatch; split <;> rfl
@[simp] theorem State.tmrMatch_fault :
    (s.tmrMatch).fault = s.fault := by unfold State.tmrMatch; split <;> rfl
@[simp] theorem State.tmrMatch_cfg :
    (s.tmrMatch).cfg = s.cfg := by unfold State.tmrMatch; split <;> rfl
@[simp] theorem State.tmrMatch_host :
    (s.tmrMatch).host = s.host := by unfold State.tmrMatch; split <;> rfl
@[simp] theorem State.tmrMatch_sched :
    (s.tmrMatch).sched = s.sched := by unfold State.tmrMatch; split <;> rfl

end Sys2Proof.Machine
end

