-- ==== Sys2Proof/Laws/Ops.lean ====
section
/-! SUPPORT. One lemma per shared operation that says all it can do. -/

namespace Sys2Proof.Machine

variable {s : State}

/-! ## Fault entry, admission, the wait -/

/-- Fault entry writes `FAULT` and nothing else (60_exceptions.md R163). -/
theorem State.raiseFault_eq (h : s.fault = 0) (c : FaultCode) :
    s.raiseFault c = { s with fault := c.bits } := if_pos h

/-- A second fault changes nothing (60_exceptions.md R164). -/
theorem State.raiseFault_eq_self (h : s.fault ≠ 0) (c : FaultCode) : s.raiseFault c = s := if_neg h

/-- All the admission micro-step can do (60_exceptions.md R162). -/
theorem State.admitOrFault_cases (s : State) (i : Instr) (p : Pos) :
    (admission s i = none ∧ s.admitOrFault i p = s.goto p) ∨
    ∃ c, admission s i = some c ∧ s.admitOrFault i p = s.raiseFault c := by
  unfold State.admitOrFault
  cases admission s i with
  | none => exact .inl ⟨rfl, rfl⟩
  | some c => exact .inr ⟨c, rfl, rfl⟩

/-- An `await tick` that finds the flag set (40_clock.md R82). -/
theorem State.awaitTick_eq (h : s.timer.ocf = true) (p : Pos) :
    s.awaitTick p = { s with timer := { s.timer with ocf := false }, pos := p } := if_pos h

/-- An `await tick` that finds the flag clear (40_clock.md R82). -/
theorem State.awaitTick_eq_self (h : s.timer.ocf = false) (p : Pos) : s.awaitTick p = s := by
  simp [State.awaitTick, h]

/-- `COUNT` and `PRE` make no difference to where a frame's waits lead: the level of a slot is written on
every channel, since `LOOP_NCH` is 4 (42_write.md R128). -/
theorem State.drvSlot_eq (s : State) (l : Slot) (i : Fin 4) : s.drvSlot l i = s.pinWrite i (s.slotLevel l i) := by
  have : slotReaches l i = true := by cases l <;> simp [slotReaches, Config.loopNch]
  simp [State.drvSlot, this]

/-! ## Pins -/

/-- A latch whose mask has the one bit `b` set reads that bit (10_state.md R16). -/
theorem State.txd_eq_testBit {i : Fin 4} {b : Nat} (h : (s.ch.get i).mask = 2 ^ b) :
    s.txd i = (s.portData.read (s.ch.get i).port).testBit b := by
  rw [State.txd, h, Nat.and_two_pow]
  cases (s.portData.read (s.ch.get i).port).testBit b <;> simp

/-- An output enable whose mask has the one bit `b` set reads that bit (10_state.md R16). -/
theorem State.oe_eq_testBit {i : Fin 4} {b : Nat} (h : (s.ch.get i).mask = 2 ^ b) :
    s.oe i = (s.portMode.read (s.ch.get i).port).testBit b := by
  rw [State.oe, h, Nat.and_two_pow]
  cases (s.portMode.read (s.ch.get i).port).testBit b <;> simp

/-- A drive of a channel's bit does not reach another channel's (20_memory.md R42). -/
theorem PortFile.testBit_drive_two_pow {f : PortFile} (h : f.wf = true) (p a : Nat) (v : Bool) (q b : Nat) :
    ((f.drive p (2 ^ a) v).read q).testBit b = if p = q ∧ a = b then v else (f.read q).testBit b := by
  rw [PortFile.testBit_drive h, Nat.testBit_two_pow]
  simp

/-- The place of a valid pin exists in the port space. -/
theorem pinPlace_some {c : Config} {p : PinId} {x y : Nat} (h : pinPlace c p = some (x, y)) :
    x < c.nport ∧ y < c.portW ∧ (⟨p, x, y⟩ : PinRow) ∈ c.pins := by
  simp only [pinPlace, Option.map_eq_some_iff, Prod.mk.injEq] at h
  obtain ⟨r, hr, rfl, rfl⟩ := h
  have h1 := List.find?_some hr
  have h2 := List.mem_of_find?_eq_some hr
  simp only [Bool.and_eq_true, beq_iff_eq, decide_eq_true_eq] at h1
  obtain ⟨⟨rfl, h3⟩, h4⟩ := h1
  exact ⟨h3, h4, h2⟩

/-- The record of a valid pin: its mask has exactly one bit set (10_state.md R12). -/
theorem channelOf_valid {c : Config} {p : PinId} (h : pinValid c p = true) :
    ∃ x y, x < c.nport ∧ y < c.portW ∧ (⟨p, x, y⟩ : PinRow) ∈ c.pins ∧
      channelOf c p = ⟨p, x, 2 ^ y⟩ := by
  obtain ⟨⟨x, y⟩, hxy⟩ := Option.isSome_iff_exists.1 h
  obtain ⟨h1, h2, h3⟩ := pinPlace_some hxy
  exact ⟨x, y, h1, h2, h3, by simp [channelOf, hxy]⟩

@[simp] theorem channelOf_pin (c : Config) (p : PinId) : (channelOf c p).pin = p := by
  unfold channelOf; split <;> rfl

/-- The pin map is injective on rows (93_implementation_defined.md U20). -/
theorem Config.row_injective {c : Config} (h : c.ok = true) {p p' : PinId} {x y : Nat}
    (h1 : (⟨p, x, y⟩ : PinRow) ∈ c.pins) (h2 : (⟨p', x, y⟩ : PinRow) ∈ c.pins) : p = p' := by
  simp only [Config.ok, Bool.and_eq_true, decide_eq_true_eq] at h
  by_contra hne
  have hsym : Std.Symm fun a b : PinRow => a.pin ≠ b.pin ∧ (a.port, a.bit) ≠ (b.port, b.bit) :=
    ⟨fun _ _ hab => ⟨hab.1.symm, hab.2.symm⟩⟩
  exact (h.2.forall h1 h2 (by simp [hne])).2 rfl

/-! ## How SEQ runs -/

theorem runSeq_zero (m : State → State) (s : State) : runSeq m 0 s = s := rfl

theorem runSeq_succ (m : State → State) (n : Nat) (s : State) :
    runSeq m (n + 1) s = if s.seqEnabled then runSeq m n (m s) else s := rfl

/-- A SEQ that has no step changes nothing. -/
theorem runSeq_of_not_enabled (m : State → State) (n : Nat) (h : s.seqEnabled = false) :
    runSeq m n s = s := by
  cases n <;> simp [runSeq, h]

/-- What one micro-step keeps, a run of them keeps. -/
theorem runSeq_induct {P : State → Prop} {m : State → State}
    (hm : ∀ s, s.seqEnabled = true → P s → P (m s)) (n : Nat) (s : State) (h : P s) : P (runSeq m n s) := by
  induction n generalizing s with
  | zero => exact h
  | succ n ih =>
    rw [runSeq_succ]
    split
    · next he => exact ih _ (hm s he h)
    · exact h

end Sys2Proof.Machine
end

