-- ==== Sys2Proof/Laws/Exec.lean ====
section
/-! SUPPORT. The meanings as runs of micro-steps, and what no micro-step changes. -/

namespace Sys2Proof.Machine

/-- Every meaning is a run of the command's micro-steps (20_memory.md R51). -/
theorem exec_eq_runSeq (i : Instr) (s : State) : exec i s = .next (runSeq (micro i) seqFuel s) := by
  cases i <;> rfl

/-- A micro-step changes neither the command word nor the parameters nor the inputs to come
(10_state.md R18, R28). -/
theorem micro_keeps (i : Instr) (s : State) :
    (micro i s).cmd = s.cmd ∧ (micro i s).cfg = s.cfg ∧ (micro i s).host = s.host ∧
      (micro i s).sched = s.sched := by
  cases i <;>
    simp only [micro, microConstruct, microBegin, microWrite, microRead, microAvailable, microFlush,
      microValid, microDestroy, microClkConfigure, microClkAwait, microClkStop] <;>
    split <;> simp

@[simp] theorem micro_cmd (i : Instr) (s : State) : (micro i s).cmd = s.cmd := (micro_keeps i s).1
@[simp] theorem micro_cfg (i : Instr) (s : State) : (micro i s).cfg = s.cfg := (micro_keeps i s).2.1
@[simp] theorem micro_host (i : Instr) (s : State) : (micro i s).host = s.host := (micro_keeps i s).2.2.1
@[simp] theorem micro_sched (i : Instr) (s : State) : (micro i s).sched = s.sched := (micro_keeps i s).2.2.2

/-- One step is one turn. -/
theorem step_eq_turn (s : State) : step s = State.turn { s with sched := s.sched.tail } s.nextTurn := rfl

/-- All a turn can do: the next state of each agent's turn (00_scope.md R6). -/
theorem State.turn_cases {s t : State} {u : Turn} (h : s.turn u = .next t) :
    (u = .host ∧ t = s.hostTurn) ∨ (u = .seq ∧ s.seqTurn = .next t) ∨ (u = .micro ∧ t = s.microTurn) ∨
    (u = .clk ∧ t = s.tmrClk) ∨ (u = .matchEvent ∧ t = s.tmrMatch) ∨
    (∃ a, u = .env a ∧ s.envTurn a = .next t) ∨ (∃ a, u = .platform a ∧ s.portAct a = .next t) ∨
    (u = .rst ∧ t = s.rst) := by
  cases u <;> simp_all [State.turn, eq_comm]

/-- All SEQ's turn can do. -/
theorem State.seqTurn_cases {s t : State} (h : s.seqTurn = .next t) :
    (s.seqEnabled = false ∧ t = s) ∨
    (s.seqEnabled = true ∧ ∃ i, decode s.cmd = .ok i ∧ t = runSeq (micro i) seqFuel s) ∨
    (s.seqEnabled = true ∧ (∃ e, decode s.cmd = .error e) ∧ t = s.illegalCommand) := by
  unfold State.seqTurn at h
  split at h
  · next he =>
    split at h
    · next i hi => rw [exec_eq_runSeq] at h; cases h; exact .inr (.inl ⟨he, i, hi, rfl⟩)
    · next e hd => cases h; exact .inr (.inr ⟨he, ⟨e, hd⟩, rfl⟩)
  · next he => cases h; exact .inl ⟨by simpa using he, rfl⟩

/-- All one micro-step of SEQ can do. -/
theorem State.microTurn_cases (s : State) :
    (s.seqEnabled = false ∧ s.microTurn = s) ∨
    (s.seqEnabled = true ∧ ∃ i, decode s.cmd = .ok i ∧ s.microTurn = micro i s) ∨
    (s.seqEnabled = true ∧ (∃ e, decode s.cmd = .error e) ∧ s.microTurn = s.illegalCommand) := by
  unfold State.microTurn
  split
  · next he =>
    split
    · next i hi => exact .inr (.inl ⟨he, i, hi, rfl⟩)
    · next e hd => exact .inr (.inr ⟨he, ⟨e, hd⟩, rfl⟩)
  · next he => exact .inl ⟨by simpa using he, rfl⟩

/-- All a port change of ENV or the platform can do (20_memory.md R59): one bit that exists and is no
channel bit. -/
theorem State.portAct_cases {s t : State} {a : PortAct} (h : s.portAct a = .next t) :
    a.port < s.cfg.nport ∧ a.bit < s.cfg.portW ∧ s.isChannelBit a.port a.bit = false ∧
    ((a.reg = .data ∧ t = { s with portData := s.portData.drive a.port (2 ^ a.bit) a.value }) ∨
     (a.reg = .mode ∧ t = { s with portMode := s.portMode.drive a.port (2 ^ a.bit) a.value })) := by
  unfold State.portAct at h
  split at h
  · next hr =>
    split at h
    · cases h
    · next hc =>
      refine ⟨hr.1, hr.2, by simpa using hc, ?_⟩
      split at h <;> cases h
      · next hd => exact .inl ⟨hd, rfl⟩
      · next hd => exact .inr ⟨hd, rfl⟩
  · cases h

/-- A faulted SEQ has no step (60_exceptions.md R163). -/
theorem State.seqEnabled_of_fault {s : State} (h : s.fault ≠ 0) : s.seqEnabled = false := by
  have h' : (s.fault == 0) = false := beq_eq_false_iff_ne.2 h
  simp only [State.seqEnabled, h', Bool.and_false, Bool.false_and]

/-- A faulted block's port is closed (30_encoding.md R74). -/
theorem State.hostEnabled_of_fault {s : State} (h : s.fault ≠ 0) : s.hostEnabled = false := by
  have h' : (s.fault == 0) = false := beq_eq_false_iff_ne.2 h
  simp only [State.hostEnabled, h', Bool.and_false]

/-- A faulted WRITE is not under the slot law (notes/assumptions/10.md). -/
theorem State.slotOpen_of_fault {s : State} (h : s.fault ≠ 0) : s.slotOpen = true := by
  have h' : (s.fault == 0) = false := beq_eq_false_iff_ne.2 h
  simp only [State.slotOpen, h', Bool.and_false, Bool.false_and, Bool.not_false]

end Sys2Proof.Machine
end

