-- ==== Sys2Proof/Laws/PerInstr.lean ====
section
/-! SUPPORT. What holds of every command as syntax, one lemma per command: a well-formed command is spelled
by a word of its row of the opcode map (30_encoding.md R66). -/

namespace Sys2Proof.Laws.Spelled

/-- The word of a well-formed command spells its row of the opcode map. -/
def Statement (i : Instr) : Prop :=
  i.wf = true → ∃ r ∈ opcodeRows, r.mnemonic = i.mnemonic ∧ r.spells (encode i) = true

/-- A mask that is 0 on the operand bits drops them. -/
theorem and_append_zero {n m : Nat} (a k : BitVec n) (b : BitVec m) :
    (a ++ b) &&& (k ++ 0#m) = (a &&& k) ++ 0#m := by
  apply BitVec.eq_of_getLsbD_eq
  intro i hi
  simp only [BitVec.getLsbD_and, BitVec.getLsbD_append]
  split <;> simp

/-- The parity field of the word of a BEGIN (30_encoding.md R63). -/
theorem begin_parity (rate : BitVec 32) (par : BitVec 2) (stop : BitVec 6) :
    (encode (.begin rate par stop)).extractLsb' 32 2 = par := by
  show (0x02#8 ++ stop ++ par ++ rate).extractLsb' 32 2 = par
  apply BitVec.eq_of_getLsbD_eq
  intro i hi
  rw [BitVec.getLsbD_extractLsb', BitVec.getLsbD_append, BitVec.getLsbD_append]
  simp [hi]

theorem construct (p0 p1 p2 p3 : PinId) (inv : Bool) : Statement (.construct p0 p1 p2 p3 inv) := by
  intro _
  refine ⟨⟨"CONSTRUCT", 0x010000000000, 0xFFFE00000000⟩, by simp [opcodeRows], rfl, ?_⟩
  have h : encode (.construct p0 p1 p2 p3 inv) &&& 0xFFFE00000000#48 = 0x010000000000#48 := by
    show (0x01#8 ++ 0#7 ++ BitVec.ofBool inv ++ p3 ++ p2 ++ p1 ++ p0) &&&
      (0xFFFE#16 ++ 0#8 ++ 0#8 ++ 0#8 ++ 0#8) = _
    simp only [and_append_zero]
    cases inv <;> decide
  simp [OpcodeRow.spells, h]

theorem begin (rate : BitVec 32) (par : BitVec 2) (stop : BitVec 6) :
    Statement (.begin rate par stop) := by
  intro hwf
  refine ⟨⟨"BEGIN", 0x020000000000, 0xFF0000000000⟩, by simp [opcodeRows], rfl, ?_⟩
  have h : encode (.begin rate par stop) &&& 0xFF0000000000#48 = 0x020000000000#48 := by
    show (0x02#8 ++ stop ++ par ++ rate) &&& (0xFF#8 ++ 0#6 ++ 0#2 ++ 0#32) = _
    simp only [and_append_zero]
    decide
  simp only [Instr.wf] at hwf
  simp only [OpcodeRow.spells, begin_parity, hwf, Bool.or_true, Bool.and_true, beq_iff_eq]
  exact h

theorem write (d0 d1 d2 d3 : Byte) : Statement (.write d0 d1 d2 d3) := by
  intro _
  refine ⟨⟨"WRITE", 0x030000000000, 0xFFFF00000000⟩, by simp [opcodeRows], rfl, ?_⟩
  have h : encode (.write d0 d1 d2 d3) &&& 0xFFFF00000000#48 = 0x030000000000#48 := by
    show (0x03#8 ++ 0#8 ++ d3 ++ d2 ++ d1 ++ d0) &&& (0xFFFF#16 ++ 0#8 ++ 0#8 ++ 0#8 ++ 0#8) = _
    simp only [and_append_zero]
    decide
  simp [OpcodeRow.spells, h]

theorem read : Statement .read := by unfold Statement; decide
theorem available : Statement .available := by unfold Statement; decide
theorem flush : Statement .flush := by unfold Statement; decide
theorem valid : Statement .valid := by unfold Statement; decide
theorem destroy : Statement .destroy := by unfold Statement; decide

theorem clkConfigure (div cmp : BitVec 16) : Statement (.clkConfigure div cmp) := by
  intro _
  refine ⟨⟨"CLK_CONFIGURE", 0x100000000000, 0xFFFF00000000⟩, by simp [opcodeRows], rfl, ?_⟩
  have h : encode (.clkConfigure div cmp) &&& 0xFFFF00000000#48 = 0x100000000000#48 := by
    show (0x10#8 ++ 0#8 ++ div ++ cmp) &&& (0xFFFF#16 ++ 0#16 ++ 0#16) = _
    simp only [and_append_zero]
    decide
  simp [OpcodeRow.spells, h]

theorem clkAwait : Statement .clkAwait := by unfold Statement; decide
theorem clkStop : Statement .clkStop := by unfold Statement; decide

end Sys2Proof.Laws.Spelled
end

