-- ==== Sys2Proof/Laws/Pins.lean ====
section
/-! SUPPORT. Channels at four different port bits: a pin write reaches its own channel only. -/

namespace Sys2Proof.Machine

variable {s : State}

/-- The four channel records stand at four different port bits, all of which exist. -/
structure State.Placed (s : State) (px py : Fin 4 → Nat) : Prop where
  port : ∀ i, (s.ch.get i).port = px i
  mask : ∀ i, (s.ch.get i).mask = 2 ^ py i
  portLt : ∀ i, px i < s.cfg.nport
  bitLt : ∀ i, py i < s.cfg.portW
  apart : ∀ i j, i ≠ j → ¬(px i = px j ∧ py i = py j)

/-- A checked operand list gives four valid, pairwise distinct pins (41_lifecycle.md R103). -/
theorem pinsOk_iff (c : Config) (pins : Lanes PinId) :
    pinsOk c pins = true ↔
      (∀ i, pinValid c (pins.get i) = true) ∧ ∀ i j, i ≠ j → pins.get i ≠ pins.get j := by
  constructor
  · intro h
    simp only [pinsOk, Bool.and_eq_true, bne_iff_ne] at h
    obtain ⟨⟨⟨⟨⟨⟨⟨⟨⟨h0, h1⟩, h2⟩, h3⟩, h4⟩, h5⟩, h6⟩, h7⟩, h8⟩, h9⟩ := h
    refine ⟨fun i => by fin_cases i <;> assumption, fun i j hij => ?_⟩
    fin_cases i <;> fin_cases j <;> first | exact absurd rfl hij | assumption | (apply Ne.symm; assumption)
  · rintro ⟨hv, hd⟩
    have v0 := hv 0; have v1 := hv 1; have v2 := hv 2; have v3 := hv 3
    have d01 := hd 0 1 (by decide); have d02 := hd 0 2 (by decide); have d03 := hd 0 3 (by decide)
    have d12 := hd 1 2 (by decide); have d13 := hd 1 3 (by decide); have d23 := hd 2 3 (by decide)
    simp only [Lanes.get] at *
    simp [pinsOk, *]

/-- Records of four valid, pairwise distinct pins stand at four different port bits. -/
theorem State.placed_of_records (hc : s.cfg.ok = true) {pins : Lanes PinId} (hp : pinsOk s.cfg pins = true)
    (hr : ∀ i, s.ch.get i = channelOf s.cfg (pins.get i)) : ∃ px py, s.Placed px py := by
  rw [pinsOk_iff] at hp
  have hv := fun i => channelOf_valid (hp.1 i)
  choose px py h1 h2 h3 h4 using hv
  refine ⟨px, py, fun i => ?_, fun i => ?_, h1, h2, fun i j hij hxy => ?_⟩
  · rw [hr, h4]
  · rw [hr, h4]
  · refine hp.2 i j hij (Config.row_injective hc (h3 i) ?_)
    rw [hxy.1, hxy.2]; exact h3 j

/-- A constructed instance has its channels at four different port bits (10_state.md R31c). -/
theorem State.Inv.placed (h : s.Inv) (hc : s.constructed = true) : ∃ px py, s.Placed px py :=
  State.placed_of_records h.cfgOk (h.pinsValid hc) fun i => by
    rw [Lanes.get_ofFn]; exact (h.records hc i).symm

/-- A pin write reaches its own channel's latch only (20_memory.md R42). -/
theorem State.Placed.txd_pinWrite {px py : Fin 4 → Nat} (h : s.Placed px py) (hw : s.portData.wf = true)
    (i j : Fin 4) (b : Level) : (s.pinWrite i b).txd j = if i = j then b else s.txd j := by
  rw [State.txd_eq_testBit (b := py j) (by rw [State.pinWrite_ch]; exact h.mask j),
    State.txd_eq_testBit (h.mask j), State.pinWrite_portData, State.pinWrite_ch, h.mask i, h.port i, h.port j,
    PortFile.testBit_drive_two_pow hw]
  by_cases hij : i = j
  · subst hij; simp
  · simp [hij, h.apart i j hij]

/-- A mode switch reaches its own channel's output enable only (20_memory.md R43). -/
theorem State.Placed.oe_pinMode {px py : Fin 4 → Nat} (h : s.Placed px py) (hw : s.portMode.wf = true)
    (i j : Fin 4) : (s.pinMode i).oe j = if i = j then true else s.oe j := by
  rw [State.oe_eq_testBit (b := py j) (by rw [State.pinMode_ch]; exact h.mask j),
    State.oe_eq_testBit (h.mask j), State.pinMode_portMode, State.pinMode_ch, h.mask i, h.port i, h.port j,
    PortFile.testBit_drive_two_pow hw]
  by_cases hij : i = j
  · subst hij; simp
  · simp [hij, h.apart i j hij]

theorem PortFile.inRange_iff (c : Config) (f : PortFile) :
    f.inRange c = true ↔ f.wf = true ∧ ∀ x ∈ f, x.1 < c.nport ∧ x.2 < 2 ^ c.portW := by
  simp [PortFile.inRange]

theorem PortFile.read_lt {f : PortFile} {n : Nat} (h : ∀ x ∈ f, x.2 < 2 ^ n) (p : Nat) :
    f.read p < 2 ^ n := by
  induction f with
  | nil => simp
  | cons x f ih =>
    rw [PortFile.read_cons]
    split
    · exact h _ (by simp)
    · exact ih fun y hy => h y (by simp [hy])

/-- A one-bit access to a bit that exists keeps a file canonical and within the port space. -/
theorem PortFile.inRange_drive {c : Config} {f : PortFile} (h : f.inRange c = true) {p k : Nat}
    (hp : p < c.nport) (hk : k < c.portW) (b : Bool) : (f.drive p (2 ^ k) b).inRange c = true := by
  rw [PortFile.inRange_iff] at h ⊢
  refine ⟨PortFile.wf_drive h.1 _ _ _, fun x hx => ?_⟩
  have hr : f.read p < 2 ^ c.portW := PortFile.read_lt (fun y hy => (h.2 y hy).2) p
  have hm : 2 ^ k < 2 ^ c.portW := Nat.pow_lt_pow_right (by omega) hk
  rcases PortFile.mem_write hx with rfl | hx
  · refine ⟨hp, ?_⟩
    cases b
    · exact Nat.xor_lt_two_pow hr (lt_of_le_of_lt Nat.and_le_left hr)
    · exact Nat.or_lt_two_pow hr hm
  · exact h.2 x hx

/-- The agents' duty stands over exactly the bound channels (20_memory.md R59; notes/assumptions/16.md). -/
theorem State.bound_iff (i : Fin 4) : s.bound i = true ↔ s.hasChannel i := by
  unfold State.bound State.hasChannel
  rcases s.pos with _ | _ | p | _ | _ | _ | _ | _ | _ | _ <;> simp
  cases p <;> simp [ConstructPos.recordWritten]

/-- The bits that ENV and the platform never write are those of the bound channels (20_memory.md R59). -/
theorem State.isChannelBit_iff (port bit : Nat) :
    s.isChannelBit port bit = true ↔ ∃ i, s.hasChannel i ∧ s.ownsBit i port bit := by
  simp [State.isChannelBit, State.ownsBit, ← State.bound_iff, Fin.exists_fin_succ, and_assoc, or_assoc]

/-- A driven latch belongs to a bound channel (41_lifecycle.md R101). -/
theorem State.hasChannel_of_hasLatch (i : Fin 4) (h : s.hasLatch i = true) : s.hasChannel i := by
  unfold State.hasLatch at h
  rcases hc : s.constructed with _ | _
  · rcases hp : s.pos with _ | _ | p | _ | _ | _ | _ | _ | _ | _ <;> simp [hc, hp] at h
    refine .inr ⟨p, hp, ?_⟩
    cases p <;> simp_all [ConstructPos.latchDriven, ConstructPos.recordWritten]
  · exact .inl hc

end Sys2Proof.Machine
end

