-- ==== Sys2Proof/Tests/Slice0.lean ====
section
/-! SUPPORT. The model's own tests: well-formedness, words written out from 30_encoding.md, vectors of
95_test_vectors.md, and a witness for the hypotheses of each statement. -/

namespace Sys2Proof.Tests

-- one thread at a time: each `decide +kernel` takes a thread of its own
set_option Elab.async false

open Sys2Proof.Machine

/-! ## Well-formedness: every check has an ill-formed term it refuses -/

theorem test_wf_refuses_reserved_parity : Instr.wf (.begin 100000 3 1) = false := by decide
theorem test_wf_takes_odd_parity : Instr.wf (.begin 100000 2 63) = true := by decide

/-! ## Words written out from the formats (95_test_vectors.md 2.1): opcode, then the fields of the format,
most significant first -/

/-- Format C: op 01, seven reserved bits, inv, pin3, pin2, pin1, pin0 (0x0100078000FF). -/
theorem test_decode_construct :
    decode (0b000000010000000000000111100000000000000011111111) = .ok (.construct 255 0 128 7 false) := by decide +kernel
/-- Format B: op 02, stop 63, par 2, rate (0x02FEFFFFFFFF). -/
theorem test_decode_begin :
    decode (0b000000101111111011111111111111111111111111111111) = .ok (.begin 4294967295 2 63) := by decide +kernel
/-- Format W: op 03, eight reserved bits, d3, d2, d1, d0 (0x0300FE80010F). -/
theorem test_decode_write :
    decode (0b000000110000000011111110100000000000000100001111) = .ok (.write 0x0F 0x01 0x80 0xFE) := by decide +kernel
/-- Format K: op 10, eight reserved bits, div, cmp (0x100000400013). -/
theorem test_decode_clkConfigure :
    decode (0b000100000000000000000000010000000000000000010011) = .ok (.clkConfigure 64 19) := by decide +kernel
/-- Format N: op, forty reserved bits. -/
theorem test_decode_read : decode (0b00000100#8 ++ 0#40) = .ok .read := by decide +kernel
theorem test_decode_available : decode (0b00000101#8 ++ 0#40) = .ok .available := by decide +kernel
theorem test_decode_flush : decode (0b00000110#8 ++ 0#40) = .ok .flush := by decide +kernel
theorem test_decode_valid : decode (0b00000111#8 ++ 0#40) = .ok .valid := by decide +kernel
theorem test_decode_destroy : decode (0b00001000#8 ++ 0#40) = .ok .destroy := by decide +kernel
theorem test_decode_clkAwait : decode (0b00010001#8 ++ 0#40) = .ok .clkAwait := by decide +kernel
theorem test_decode_clkStop : decode (0b00010010#8 ++ 0#40) = .ok .clkStop := by decide +kernel

theorem test_illegal_opcodes :
    [0x000000000000, 0x090000000000, 0x0F0000000000, 0x130000000000, 0xFF0000000000].map decode =
    List.replicate 5 (.error .unassignedOpcode) := by decide +kernel
theorem test_illegal_reserved_bits :
    [0x040000000001, 0x118000000000, 0x08FFFFFFFFFF, 0x010205040302, 0x01FF05040302, 0x0301FF00AA55,
      0x100100080014].map decode = List.replicate 7 (.error .reservedBits) := by decide +kernel
theorem test_illegal_parity :
    [0x0207000186A0, 0x020300000000, 0x02FFFFFFFFFF, 0x02FBFFFFFFFF].map decode =
    List.replicate 4 (.error .reservedParity) := by decide +kernel
theorem test_asm : Instr.asm (.begin 100000 1 2) = "BEGIN 100000, EVEN, 2" := by decide +kernel
theorem test_table_word : decodeTableWord 48 0x0300FF00AA55 = some (.write 0x55 0xAA 0x00 0xFF) := by decide +kernel

/-! ## States to test on -/

/-- A command accepted in a state. -/
def accepted (s : State) (i : Instr) : State := s.accept (encode i)

/-- The block after LC1 and a BEGIN with even parity and two stop bits, idle (95_test_vectors.md 2.3),
divider 8. -/
def ready : State :=
  { State.reset with
    constructed := true
    ch := ⟨⟨2, 0, 0x04⟩, ⟨3, 0, 0x08⟩, ⟨4, 0, 0x10⟩, ⟨5, 0, 0x20⟩⟩
    pmode := 1, stopb := 2, cfgSet := true
    timer := ⟨true, 8, 20, 5, 13, false⟩
    portData := [(0, 0x3C)], portMode := [(0, 0x3C)] }

/-- `ready` with the compare-match flag set. -/
def matched : State := { ready with timer := ⟨true, 8, 20, 5, 13, true⟩ }

/-- A WRITE of 0x55, 0xAA, 0x00, 0xFF at a position inside its critical section, the flag set. -/
def writing (p : WritePos) (data : Nat) : State :=
  { matched.accept 0x0300FF00AA55 with
    pos := .write p, txb := ⟨0x55, 0xAA, 0x00, 0xFF⟩, ie := false, ieSaved := true, portData := [(0, data)] }

/-- A CONSTRUCT 2, 3, 4, 5, INVERTED past its first channel. -/
def constructing (p : ConstructPos) : State :=
  { State.reset.accept 0x010105040302 with
    pos := .construct p, inv := true
    ch := ⟨⟨2, 0, 0x04⟩, ⟨3, 0, 0x08⟩, ⟨4, 0, 0x10⟩, ⟨5, 0, 0x20⟩⟩
    portMode := [(0, 0x04)] }

/-- The next state of an outcome. -/
def after (o : Host.Outcome State Fault Refusal) : Option State :=
  match o with
  | .next t => some t
  | _ => none

/-! ## Vectors of 95_test_vectors.md, one command each -/

/-- LC1. -/
theorem test_construct_lc1 :
    (after (exec (.construct 2 3 4 5 false) (accepted .reset (.construct 2 3 4 5 false)))).map
      (fun t => (t.ch, t.portData, t.portMode, t.lines)) =
    some (⟨⟨2, 0, 0x04⟩, ⟨3, 0, 0x08⟩, ⟨4, 0, 0x10⟩, ⟨5, 0, 0x20⟩⟩, [(0, 0x3C)], [(0, 0x3C)],
      ⟨.level true, .level true, .level true, .level true⟩) := by decide +kernel
/-- LC2: pins across two ports, inverted. -/
theorem test_construct_lc2 :
    (after (exec (.construct 6 7 8 9 true) (accepted .reset (.construct 6 7 8 9 true)))).map
      (fun t => (t.inv, t.portMode, t.lines, t.timer)) =
    some (true, [(0, 0xC0), (1, 0x03)], ⟨.level false, .level false, .level false, .level false⟩,
      ⟨true, 8, 20, 0, 0, false⟩) := by decide +kernel
/-- LC5: a pending match is discarded. -/
theorem test_begin_lc5 :
    (after (exec (.begin 100000 1 2) (accepted matched (.begin 100000 1 2)))).map
      (fun t => (t.pmode, t.stopb, t.cfgSet, t.timer)) =
    some (1, 2, true, ⟨true, 8, 20, 0, 0, false⟩) := by decide +kernel
/-- LC7: the stop count is stored raw. -/
theorem test_begin_lc7 :
    (after (exec (.begin 4294967295 2 63) (accepted ready (.begin 4294967295 2 63)))).map
      (fun t => (t.pmode, t.stopb)) = some (2, 63) := by decide +kernel
/-- LC10. -/
theorem test_destroy_lc10 :
    (after (exec .destroy (accepted matched .destroy))).map
      (fun t => (t.timer, t.cfgSet, t.constructed, t.portMode)) =
    some (⟨false, 8, 20, 5, 13, true⟩, false, false, [(0, 0x3C)]) := by decide +kernel
/-- H1: steps 1 to 3 of WRITE, then the first wait. -/
theorem test_write_h1 :
    (after (exec (.write 0x55 0xAA 0x00 0xFF) (accepted ready (.write 0x55 0xAA 0x00 0xFF)))).map
      (fun t => (t.txb, t.ie, t.ieSaved, t.pos, t.lines)) =
    some (⟨0x55, 0xAA, 0x00, 0xFF⟩, false, true, .write (.await .start),
      ⟨.level true, .level true, .level true, .level true⟩) := by decide +kernel
/-- P1, slot B1: the lines after it. -/
theorem test_write_p1_b1 :
    (after (exec (.write 0x55 0xAA 0x00 0xFF) (writing (.await (.bit 1)) 0x24))).map
      (fun t => (t.pos, t.lines)) =
    some (.write (.await (.bit 2)), ⟨.level false, .level true, .level false, .level true⟩) := by
  decide +kernel
/-- T1, T2. -/
theorem test_read_t1 :
    (after (exec .read (accepted ready .read))).map (fun t => (t.res, t.busy)) = some (0xFFFFFFFF, false) := by
  decide +kernel
theorem test_available_t2 :
    (after (exec .available (accepted { ready with res := 1 } .available))).map (fun t => (t.res, t.busy)) =
    some (0xFFFFFFFF, false) := by decide +kernel
/-- T3, T4. -/
theorem test_flush_t3 :
    (after (exec .flush (accepted { ready with res := 1 } .flush))).map (fun t => (t.res, t.busy)) =
    some (1, false) := by decide +kernel
theorem test_valid_t4 :
    (after (exec .valid (accepted { ready with cfgSet := false } .valid))).map (fun t => (t.res, t.busy)) =
    some (1, false) := by decide +kernel
/-- K2. -/
theorem test_clkConfigure_k2 :
    (after (exec (.clkConfigure 64 19) (accepted matched (.clkConfigure 64 19)))).map State.timer =
    some ⟨true, 64, 19, 0, 0, false⟩ := by decide +kernel
/-- K5, K6: a stopped timer's stale flag is consumed once; then the wait hangs. -/
theorem test_clkAwait_k5 :
    (after (exec .clkAwait (accepted { State.reset with timer := ⟨false, 8, 20, 5, 13, true⟩ } .clkAwait))).map
      (fun t => (t.timer, t.busy)) = some (⟨false, 8, 20, 5, 13, false⟩, false) := by decide +kernel
theorem test_clkAwait_k6 :
    (after (exec .clkAwait (accepted { State.reset with timer := ⟨false, 8, 20, 5, 13, false⟩ } .clkAwait))).map
      (fun t => (t.hung, t.busy, t.pos)) = some (true, true, .clkAwait) := by decide +kernel
/-- K3. -/
theorem test_clkStop_k3 :
    (after (exec .clkStop (accepted matched .clkStop))).map State.timer =
    some ⟨false, 8, 20, 5, 13, true⟩ := by decide +kernel
/-- The counter table after CLK_CONFIGURE 2, 3: clocks 1 to 6. -/
theorem test_clk_counter :
    (List.range 7).map (fun n => let t := Timer.clk^[n] (.configure 2 3); (t.pre, t.cnt, t.ocf)) =
    [(0, 0, false), (1, 0, false), (0, 1, false), (1, 1, false), (0, 2, false), (1, 2, false), (0, 0, true)] := by
  decide +kernel

/-- F1 to F4, LC12 to LC15: one fault each, the earliest. -/
theorem test_faults :
    [State.reset.accept 0, State.reset.accept 0x0300FF00AA55, State.reset.accept 0x0207000186A0,
      { ready with cfgSet := false }.accept 0x0300FF00AA55, ready.accept 0x010005040302,
      State.reset.accept 0x010005040202, State.reset.accept 0x010005041002,
      ready.accept 0x010005040202].map (fun s => (after (step s)).map State.fault) =
    [some 1, some 2, some 1, some 5, some 3, some 4, some 4, some 3] := by decide +kernel

/-- S1, S2, S3, W8's parity cell: channel rows of `Cells`. -/
theorem test_cells_s1 :
    (cells .examplePlatform ⟨0x55, 0xAA, 0x00, 0xFF⟩ false 0 1).map (fun v => v.get 1) =
    [false, false, true, false, true, false, true, false, true, true] := by decide +kernel
theorem test_cells_s2 :
    (cells .examplePlatform ⟨0x55, 0xAA, 0x00, 0xFF⟩ true 0 1).map (fun v => v.get 3) =
    [true, false, false, false, false, false, false, false, false, false] := by decide +kernel
theorem test_cells_s3 :
    (cells .examplePlatform ⟨0x0F, 0x0F, 0x0F, 0x0F⟩ false 2 1).map (fun v => v.get 2) =
    [false, true, true, true, true, false, false, false, false, true, true] := by decide +kernel

/-! ## States that meet the invariant -/

theorem witness_config_ok : Config.examplePlatform.ok = true := by decide +kernel

theorem witness_inv_reset : State.reset.Inv := by
  constructor <;> first | decide +kernel | (intro p hp; cases hp)

theorem witness_inv_matched : matched.Inv := by
  constructor <;> first | decide +kernel | (intro p hp; cases hp)

/-- A WRITE accepted on a running timer. -/
theorem witness_inv_accepted : (accepted ready (.write 0x55 0xAA 0x00 0xFF)).Inv := by
  constructor <;> first | decide +kernel | (intro p hp; cases hp)

/-- Inside a frame: the wait before the parity bit, the flag set. -/
theorem witness_inv_parity_slot : (writing (.await .par) 0x24).Inv := by
  constructor <;> first | decide +kernel | (intro p hp; cases hp; decide +kernel) | (intro p hp; cases hp)

/-- At the first and at the last slot. -/
theorem witness_inv_start_slot : (writing (.await .start) 0x3C).Inv := by
  constructor <;> first | decide +kernel | (intro p hp; cases hp; decide +kernel) | (intro p hp; cases hp)

theorem witness_inv_stop_slot : (writing (.await .stop) 0x18).Inv := by
  constructor <;> first | decide +kernel | (intro p hp; cases hp; decide +kernel) | (intro p hp; cases hp)

/-- A WRITE in a slot, between two pin writes. -/
theorem witness_inv_drive : (writing (.drv .start 2) 0x30).Inv := by
  constructor <;> first | decide +kernel | (intro p hp; cases hp; decide +kernel) | (intro p hp; cases hp)

/-- CONSTRUCT before the latch write of channel 1. -/
theorem witness_inv_construct_drive : (constructing (.drive 1)).Inv := by
  constructor <;> first | decide +kernel | skip
  all_goals intro p hp; cases hp
  exact ⟨by decide, 2, 3, 4, 5, true, by decide +kernel⟩

/-- CONSTRUCT before the mode switch of channel 1. -/
theorem witness_inv_construct_mode : (constructing (.mode 1)).Inv := by
  constructor <;> first | decide +kernel | skip
  all_goals intro p hp; cases hp
  exact ⟨by decide, 2, 3, 4, 5, true, by decide +kernel⟩

/-- CONSTRUCT before it binds channel 3. -/
theorem witness_inv_construct_bind : (constructing (.bind 3)).Inv := by
  constructor <;> first | decide +kernel | skip
  all_goals intro p hp; cases hp
  exact ⟨by decide, 2, 3, 4, 5, true, by decide +kernel⟩

theorem accepted_ok {s : State} (h : s.fault = 0) (i : Instr) : (accepted s i).Accepted := ⟨rfl, rfl, h⟩

/-! ## A witness for the hypotheses of each statement, in the order of the statements

A witness of a statement about one step is a state whose step is what the statement speaks of; the clauses
of a statement have a state each. -/

/-- AfterResetTheBlockWaitsForACommand, ResetEventGivesTheResetValues, FaultIsStickyUntilReset: reset in a
faulted and in a running state, with a command to come. -/
theorem witness_reset_event :
    let s := { matched with sched := [.rst], fault := 3, busy := true, pos := .adm, host := [.command 7] }
    s.nextTurn = .rst ∧ (after (step s)).map State.host = some [.command 7] := by decide +kernel

/-- StepKeepsTheInvariant: inside a frame. -/
theorem witness_step_keeps_invariant :
    (writing (.await .par) 0x24).Inv ∧ (after (step (writing (.await .par) 0x24))).isSome = true :=
  ⟨witness_inv_parity_slot, by decide +kernel⟩

/-- ElementsAreWrittenByTheirCommandsOnly: each named element does change. CONSTRUCT. -/
theorem witness_construct_writes :
    let s := accepted { State.reset with cfgSet := true } (.construct 2 3 4 5 true)
    (after (step s)).map (fun t => [decide (t.constructed ≠ s.constructed), decide (t.ch ≠ s.ch),
      decide (t.inv ≠ s.inv), decide (t.cfgSet ≠ s.cfgSet), decide (t.timer.run ≠ s.timer.run),
      decide (t.timer.div ≠ s.timer.div), decide (t.portMode ≠ s.portMode)]) =
    some (List.replicate 7 true) := by decide +kernel

/-- BEGIN, WRITE, the host, TMR and the admission sequence. -/
theorem witness_others_write :
    (after (step (accepted ready (.begin 0 2 1)))).map (fun t => (t.pmode, t.stopb, t.timer.cnt)) =
      some (2, 1, 0) ∧
    (after (step (accepted ready (.write 1 1 1 3)))).map (fun t => (t.txb.l0, t.q.l0, t.ieSaved, t.ie)) =
      some (1, true, true, false) ∧
    (after (step { ready with host := [.command 9] })).map State.cmd = some 9 ∧
    (after (step { ready with sched := [.clk] })).map (fun t => t.timer.pre) = some 6 ∧
    (after (step (accepted ready .read))).map State.res = some 0xFFFFFFFF ∧
    (after (step (accepted State.reset .read))).map State.fault = some 2 := by decide +kernel

/-- ElementsAreWrittenByTheirCommandsOnly: `BUSY` and `POS` by HOST and by SEQ, the flag by TMR. -/
theorem witness_busy_pos_flag :
    (after (step { ready with host := [.command 9] })).map (fun t => (t.busy, t.pos)) = some (true, .adm) ∧
    (after (step (accepted ready .flush))).map (fun t => (t.busy, t.pos)) = some (false, .idle) ∧
    (after (step { ready with sched := [.matchEvent] })).map (fun t => t.timer.ocf) = some true := by
  decide +kernel

/-- A block after reset whose elements without a value are not those of `State.reset`. -/
def otherReset : State := { State.reset with inv := true, cmd := 5, stopb := 9, res := 7, portData := [(1, 3)] }

/-- UnsetElementsAreNeverRead: two different states that agree on every element that holds a value. -/
theorem witness_same_values :
    State.reset.Inv ∧ otherReset.Inv ∧ State.reset.SameValues otherReset ∧ State.reset ≠ otherReset := by
  refine ⟨witness_inv_reset, ?_, ?_, by decide⟩
  · constructor <;> first | decide +kernel | (intro p hp; cases hp)
  · constructor <;> first | rfl | (intro h; exact absurd h (by decide)) | (intro i h; first | rfl | cases h)

/-- StepRunsTheDecodedCommand: by schedule and by default. -/
theorem witness_step_runs :
    let s := accepted ready .valid
    decode s.cmd = .ok .valid ∧ s.seqEnabled = true ∧ s.sched = [] ∧
      State.nextTurn { s with sched := [.seq, .clk] } = .seq := by decide +kernel

/-- StoredWordIsRunNext. -/
theorem witness_stored_word : decodeTableWord 48 0x01FE05040302 = none ∧
    decodeTableWord 48 0x0301000000FF = none ∧
    decodeTableWord 48 0x0300000000FF = some (.write 0xFF 0 0 0) := by decide +kernel

/-- HostPresentsOnlyToAnOpenPort: open to a word and to a write of `IE`, closed by a command, closed by a
fault. -/
theorem witness_host_turn :
    let s := { ready with sched := [.host], host := [.command 0x070000000000] }
    s.nextTurn = .host ∧ s.busy = false ∧ s.fault = 0 ∧
    State.nextTurn { s with host := [.setIe false] } = .host ∧
    State.nextTurn { s with busy := true, pos := .adm } = .host ∧
    State.nextTurn { s with busy := true, pos := .adm, fault := 1 } = .host := by decide

/-- CommandStaysWhileBusy: a step that completes. -/
theorem witness_busy_step :
    let s := accepted ready .flush
    s.nextTurn ≠ .rst ∧ s.busy = true ∧ (after (step s)).map State.busy = some false := by decide +kernel

/-- DecodeInvertsEncode, EncodeInvertsDecode, LegalWordsAreTheRowsOfTheMap. -/
theorem witness_legal_words :
    Instr.wf (.begin 0xFFFFFFFF 2 63) = true ∧ decode 0x02FEFFFFFFFF = .ok (.begin 0xFFFFFFFF 2 63) ∧
    (opcodeRows.filter fun r => r.spells 0x02FEFFFFFFFF).map OpcodeRow.mnemonic = ["BEGIN"] := by
  decide +kernel

/-- IllegalWordsFault, and the first clause of AdmissionRaisesTheFirstFailingFault. -/
theorem witness_illegal_word :
    (State.reset.accept 0x118000000000).Accepted ∧
    decode (State.reset.accept 0x118000000000).cmd = .error .reservedBits :=
  ⟨⟨rfl, rfl, rfl⟩, by decide +kernel⟩

/-- AdmissionRaisesTheFirstFailingFault, FaultEntryIsPrecise: a state for each check, and one that passes. -/
theorem witness_admission :
    admission (accepted ready (.construct 2 2 4 5 true)) (.construct 2 2 4 5 true) = some .alreadyConstructed ∧
    admission (accepted State.reset .destroy) .destroy = some .notConstructed ∧
    admission (accepted State.reset (.construct 2 16 4 5 true)) (.construct 2 16 4 5 true) =
      some .invalidPin ∧
    admission (accepted State.reset (.construct 0 1 15 0 true)) (.construct 0 1 15 0 true) =
      some .invalidPin ∧
    admission (accepted { ready with cfgSet := false } (.write 0 0 0 0)) (.write 0 0 0 0) =
      some .configUnset ∧
    admission (accepted State.reset (.construct 0 1 14 15 true)) (.construct 0 1 14 15 true) = none ∧
    decode (accepted State.reset (.construct 0 1 14 15 true)).cmd = .ok (.construct 0 1 14 15 true) := by
  decide +kernel

/-- FaultedBlockIsBlocked, FaultIsStickyUntilReset, MatchEventIsTakenUnderTheSlotLaw: a faulted WRITE whose
timer matches, counts, and beside which ENV and the platform go on (F4, F11). -/
theorem witness_faulted_step :
    let s := { ready.accept 0x0300FF00AA55 with cfgSet := false, fault := 5 }
    let a : PortAct := ⟨.data, 1, 7, true⟩
    s.fault ≠ 0 ∧ s.timer.canMatch = true ∧ s.ie = true ∧ isWrite s.cmd = true ∧ s.pos.isAwait = false ∧
    (after (step { s with sched := [.matchEvent] })).map (fun t => t.timer.ocf) = some true ∧
    (after (step { s with sched := [.clk] })).map (fun t => t.timer.pre) = some 6 ∧
    (after (step { s with sched := [.env a] })).map State.portData = some [(0, 0x3C), (1, 0x80)] ∧
    (after (step { s with sched := [.platform a] })).map State.portData = some [(0, 0x3C), (1, 0x80)] := by
  decide +kernel

/-- The stream stubs, BEGIN, DESTROY, with and without an instance. -/
theorem witness_stream :
    (accepted ready .read).Accepted ∧ ready.constructed = true ∧
    (accepted State.reset .read).Accepted ∧ State.reset.constructed = false ∧
    (accepted ready (.begin 0 3 1)).Accepted ∧ (accepted State.reset (.begin 0 2 1)).Accepted :=
  ⟨accepted_ok rfl _, rfl, accepted_ok rfl _, rfl, accepted_ok rfl _, accepted_ok rfl _⟩

/-- Reserved bits of the four stream words. -/
theorem witness_stream_words :
    [0x040000000001#48, 0x058000000000, 0x060000000001, 0x078000000000].map
      (fun w => (opField w, decide (w.extractLsb' 0 40 ≠ 0))) =
    [(0x04, true), (0x05, true), (0x06, true), (0x07, true)] := by decide +kernel

/-- ResultIsWrittenAtCompletionOnly: a completion, a wait and a fault. -/
theorem witness_result :
    (after (exec .valid (accepted ready .valid))).map State.busy = some false ∧
    (after (exec .clkAwait (accepted ready .clkAwait))).map State.busy = some true ∧
    (after (exec .valid (accepted State.reset .valid))).map State.fault = some 2 := by decide +kernel

/-- ClkConfigureProgramsAndStarts, ClkStopStopsCounting. -/
theorem witness_clock_commands :
    (accepted matched (.clkConfigure 0 0)).Accepted ∧ (accepted State.reset .clkStop).Accepted ∧
    State.reset.timer.run = false := ⟨accepted_ok rfl _, accepted_ok rfl _, rfl⟩

/-- ClkAwaitWaitsForTheFlag: accepted or standing at the wait, the flag set or clear. -/
theorem witness_clkAwait :
    (accepted matched .clkAwait).Accepted ∧ matched.timer.ocf = true ∧
    (accepted ready .clkAwait).Accepted ∧ ready.timer.ocf = false ∧
    (let s := { accepted ready .clkAwait with pos := .clkAwait }; s.busy = true ∧ s.fault = 0) :=
  ⟨accepted_ok rfl _, rfl, accepted_ok rfl _, rfl, rfl, rfl⟩

/-- InputClocksReachTheMatchEvent: at the first and at the last phase of a period. -/
theorem witness_timer_phases :
    let t : Timer := ⟨true, 8, 20, 0, 0, false⟩
    let u : Timer := ⟨true, 8, 20, 7, 19, false⟩
    t.canMatch = true ∧ t.pre.toNat < t.div.toNat ∧ t.cnt.toNat < t.cmp.toNat ∧
    u.canMatch = true ∧ u.pre.toNat < u.div.toNat ∧ u.cnt.toNat < u.cmp.toNat := by decide

/-- BitPeriodIsDividerTimesCompare, MatchlessTimerNeverMatches. -/
theorem witness_timer_parameters :
    (Timer.clk^[159] (Timer.configure 8 20)).clkMatches = true ∧
    Config.examplePlatform.ok = true ∧ Config.examplePlatform.cmpFixed = 20 ∧
    (Timer.configure 0 20).run = true ∧ (Timer.configure 8 0).run = true := by decide +kernel

/-- TimerOnlySetsTheFlag, MatchEventIsTakenUnderTheSlotLaw, FlagIsClearedByWaitsAndStartsOnly: a match idle,
at a wait, against the slot law, and of a timer that cannot match. -/
theorem witness_match_turns :
    let s := { ready with sched := [.matchEvent] }
    let w := { writing (.await .par) 0x24 with sched := [.matchEvent], timer := ready.timer }
    let d := { writing (.drv .start 2) 0x30 with sched := [.matchEvent], timer := ready.timer }
    s.nextTurn = .matchEvent ∧ s.timer.canMatch = true ∧ s.busy = false ∧
    w.nextTurn = .matchEvent ∧ isWrite w.cmd = true ∧ w.pos.isAwait = true ∧
    d.nextTurn = .matchEvent ∧ d.busy = true ∧ d.fault = 0 ∧ isWrite d.cmd = true ∧ d.pos.isAwait = false ∧
    State.nextTurn { State.reset with sched := [.matchEvent] } = .matchEvent ∧
    (after (step s)).map (fun t => t.timer.ocf) = some true ∧
    (after (step (accepted matched .clkAwait))).map (fun t => t.timer.ocf) = some false := by decide +kernel

/-- ConstructBindsAndDrivesIdle. -/
theorem witness_construct :
    (accepted State.reset (.construct 6 7 8 9 true)).Accepted ∧ State.reset.constructed = false ∧
    pinsOk State.reset.cfg ⟨6, 7, 8, 9⟩ = true ∧ State.reset.cfg.ok = true ∧
    State.reset.portData.wf = true ∧ State.reset.portMode.wf = true :=
  ⟨accepted_ok rfl _, by decide +kernel⟩

/-- ConstructShowsNoGlitch: at a latch write, at a mode switch, and at a line that does neither. -/
theorem witness_glitch :
    (constructing (.drive 1)).Inv ∧ (constructing (.mode 1)).Inv ∧ (constructing (.bind 3)).Inv ∧
    decode (constructing (.drive 1)).cmd = .ok (.construct 2 3 4 5 true) ∧
    (constructing (.drive 1)).oe 1 = false :=
  ⟨witness_inv_construct_drive, witness_inv_construct_mode, witness_inv_construct_bind, by decide +kernel⟩

/-- WriteLatchesAndEntersTheCriticalSection, WriteEmitsItsCells, LanesAreIndependent: accepted with the flag
clear; with the flag set the same holds of `matched`. -/
theorem witness_write_accepted :
    let s := accepted ready (.write 0x55 0xAA 0x00 0xFF)
    s.Inv ∧ s.Accepted ∧ s.constructed = true ∧ s.cfgSet = true ∧
    decode s.cmd = .ok (.write 0x55 0xAA 0x00 0xFF) ∧ s.timer.canMatch = true ∧ s.sched = [] ∧
    s.host = [] ∧ s.timer.ocf = false ∧ s.pmode ≠ 0 ∧ matched.timer.ocf = true :=
  ⟨witness_inv_accepted, accepted_ok rfl _, by decide +kernel⟩

/-- WriteSlotDrivesTheFourLines: the first, a late and the last slot, and a wait of the pre-synchronisation. -/
theorem witness_slots :
    (writing (.await .start) 0x3C).Inv ∧ (writing (.await .par) 0x24).Inv ∧
    (writing (.await .stop) 0x18).Inv ∧ (writing (.pre 0) 0x3C).timer.ocf = true ∧
    (writing (.pre 0) 0x3C).busy = true ∧ (writing (.pre 0) 0x3C).fault = 0 :=
  ⟨witness_inv_start_slot, witness_inv_parity_slot, witness_inv_stop_slot, rfl, rfl, rfl⟩

/-- WriteCompletesAfterTheStopBits: one stop bit, the first and the second wait of two. -/
theorem witness_stop_waits :
    (writing .t1 0x3C).busy = true ∧ (writing .t1 0x3C).fault = 0 ∧ (writing .t1 0x3C).timer.ocf = true ∧
    1 < (writing .t1 0x3C).stopb.toNat ∧ (writing .t2 0x3C).pos = .write .t2 ∧
    ({ writing .t1 0x3C with stopb := 1 } : State).stopb.toNat ≤ 1 := by decide

/-- WriteStepsThroughItsPositionsInOrder: at a pin write and at a wait. -/
theorem witness_write_steps :
    (writing (.drv .start 2) 0x30).Inv ∧ (writing (.drv .start 2) 0x30).seqEnabled = true ∧
    (writing (.await .par) 0x24).Inv ∧ (writing (.await .par) 0x24).seqEnabled = true ∧
    decode (writing (.await .par) 0x24).cmd = .ok (.write 0x55 0xAA 0x00 0xFF) :=
  ⟨witness_inv_drive, by decide, witness_inv_parity_slot, by decide, by decide +kernel⟩

/-- ExecRunsMicroStepsToRest. -/
theorem witness_exec_runs :
    let s := accepted ready (.write 1 2 3 4)
    decode s.cmd = .ok (.write 1 2 3 4) ∧ s.pos.fits (.write 1 2 3 4) = true := by decide +kernel

/-- WaitHoldsWhileTheFlagIsClear, EveryHoldEndsAtTheMatch, HangLastsUntilReset: a hold and a hang. -/
theorem witness_hold_and_hang :
    let s := { accepted ready .clkAwait with pos := .clkAwait }
    s.busy = true ∧ s.pos.isAwait = true ∧ s.timer.ocf = false ∧ s.held = true ∧ s.sched = [] ∧
    decode s.cmd = .ok .clkAwait ∧ s.pos.fits .clkAwait = true ∧
    State.hung { s with timer := { s.timer with run := false } } = true ∧
    State.nextTurn { s with timer := { s.timer with run := false } } ≠ .rst := by decide +kernel

/-- PinWriteChangesOneBit, OutputModeIsNeverUndone. -/
theorem witness_pin_write :
    ready.portData.wf = true ∧ (ready.ch.get 3).mask = 2 ^ 5 ∧ ready.portMode.wf = true := by decide

/-- CriticalSectionMasksInterrupts: interrupts off, on, and inside a frame. -/
theorem witness_env :
    let a : PortAct := ⟨.data, 1, 7, true⟩
    State.nextTurn { ready with sched := [.env a], ie := false } = .env a ∧
    State.nextTurn { ready with sched := [.env a] } = .env a ∧ ready.ie = true ∧
    (writing (.await .par) 0x24).Inv ∧ (writing (.await .par) 0x24).pos.critical = true :=
  ⟨rfl, rfl, rfl, witness_inv_parity_slot, rfl⟩

/-- EnvironmentChangesOneForeignBit: the first bit that does not exist, a channel bit, the last free bit;
without an instance every bit is free; inside CONSTRUCT the bits of bound channels are not. -/
theorem witness_port_acts :
    matched.portData.wf = true ∧ matched.portMode.wf = true ∧ matched.cfg.nport ≤ 2 ∧ matched.cfg.portW ≤ 8 ∧
    (matched.hasChannel 3 ∧ matched.ownsBit 3 0 5) ∧ (∀ i, ¬matched.ownsBit i 1 7) ∧
    (∀ i, ¬State.reset.hasChannel i) ∧
    ((constructing (.bind 3)).hasChannel 2 ∧ (constructing (.bind 3)).ownsBit 2 0 4) ∧
    ¬(constructing (.bind 3)).hasChannel 3 := by
  refine ⟨by decide, by decide, by decide, by decide, ⟨.inl rfl, rfl, rfl⟩,
    fun i h => by (fin_cases i <;> cases h.1), ?_, ⟨.inr ⟨_, rfl, rfl⟩, rfl, rfl⟩, ?_⟩
  · rintro i (h | ⟨p, h, -⟩) <;> cases h
  · rintro (h | ⟨p, h, h'⟩) <;> cases h
    cases h'

/-- EveryFrameDecodesToItsBytes: both readings of the parity level, with parity and two stop bits. -/
theorem witness_frame_parameters :
    Config.examplePlatform.parFollowsInv = true ∧
    { Config.examplePlatform with parFollowsInv := false }.parFollowsInv = false ∧
    (2 : BitVec 2) ≠ 0 ∧ 1 < (2 : BitVec 6).toNat := by decide

/-- FinalStateRestsIdle. -/
theorem witness_final : matched.Inv ∧ matched.final = true ∧ matched.constructed = true :=
  ⟨witness_inv_matched, by decide +kernel⟩

end Sys2Proof.Tests
end

section
/-! PROOFS. The layer that the proofs about SEQ rest on: SEQ's turn as micro-steps in a row, the first and
the last micro-step of every command, and what no micro-step does. -/

namespace Sys2Proof.Machine

/-! ## Standing at a position -/

/-- A state that stands at `p` is itself with `POS` set to `p`; what a micro-step does to the latter follows
by computation. -/
theorem State.goto_eq_self {s : State} {p : Pos} (h : s.pos = p) : s.goto p = s := by
  subst h; rfl

/-- What makes SEQ's micro-step enabled (10_state.md R19). -/
theorem State.seqEnabled_iff (s : State) :
    s.seqEnabled = true ↔
      s.busy = true ∧ s.fault = 0 ∧ s.pos ≠ .idle ∧ (s.pos.isAwait = true → s.timer.ocf = true) := by
  simp only [State.seqEnabled, Bool.and_eq_true, beq_iff_eq, bne_iff_ne, Bool.or_eq_true,
    Bool.not_eq_true', and_assoc, imp_iff_not_or, Bool.not_eq_true]

/-- The successor of a lane: the next channel, or none after channel 3 (20_memory.md R53). -/
theorem nextLane_cases (i : Fin 4) :
    (∃ j, nextLane i = some j ∧ j.val = i.val + 1) ∨ (nextLane i = none ∧ i.val = 3) := by
  unfold nextLane
  split
  · exact .inl ⟨_, rfl, rfl⟩
  · exact .inr ⟨rfl, by omega⟩

/-! ## SEQ's turn is its micro-turn, taken `seqFuel` times -/

theorem State.microTurn_of_not_enabled {s : State} (h : s.seqEnabled = false) : s.microTurn = s := by
  simp [State.microTurn, h]

theorem State.microTurn_of_decode {s : State} {i : Instr} (he : s.seqEnabled = true)
    (hd : decode s.cmd = .ok i) : s.microTurn = micro i s := by
  simp [State.microTurn, he, hd]

theorem State.microTurn_of_illegal {s : State} {e : DecodeError} (he : s.seqEnabled = true)
    (hd : decode s.cmd = .error e) : s.microTurn = s.illegalCommand := by
  simp [State.microTurn, he, hd]

/-- A state that the micro-turn leaves alone is left alone by any number of them. -/
theorem State.microTurn_iterate_fixed {s : State} (h : s.microTurn = s) (n : Nat) :
    State.microTurn^[n] s = s := Function.iterate_fixed h n

/-- What one micro-turn keeps, any number of them keeps. -/
theorem State.microTurn_iterate_induct {P : State → Prop} (hstep : ∀ s, P s → P s.microTurn) (n : Nat)
    {s : State} (h : P s) : P (State.microTurn^[n] s) := by
  induction n generalizing s with
  | zero => exact h
  | succ n ih => exact ih (hstep s h)

/-- A run of a command's micro-steps is a run of micro-turns while `CMD` holds the command. -/
theorem runSeq_eq_iterate {i : Instr} (n : Nat) (s : State) (hd : decode s.cmd = .ok i) :
    runSeq (micro i) n s = State.microTurn^[n] s := by
  induction n generalizing s with
  | zero => rfl
  | succ n ih =>
    rw [runSeq_succ, Function.iterate_succ_apply]
    cases he : s.seqEnabled with
    | true => rw [if_pos rfl, State.microTurn_of_decode he hd]; exact ih _ (by rw [micro_cmd, hd])
    | false =>
      have hfix := State.microTurn_of_not_enabled he
      rw [hfix, State.microTurn_iterate_fixed hfix]; rfl

/-- After the micro-turn on an illegal word no micro-turn changes anything: the block is faulted, or SEQ was
not at its admission sequence and nothing happened. -/
theorem State.microTurn_illegalCommand {s : State} {e : DecodeError} (hd : decode s.cmd = .error e) :
    s.illegalCommand.microTurn = s.illegalCommand := by
  cases he : s.illegalCommand.seqEnabled with
  | false => exact State.microTurn_of_not_enabled he
  | true =>
    rw [State.microTurn_of_illegal he (by rw [State.illegalCommand_cmd]; exact hd)]
    obtain ⟨-, hf, -⟩ := (State.seqEnabled_iff _).1 he
    have hadm : s.pos ≠ .adm := by
      intro hadm
      rw [State.illegalCommand_fault] at hf
      split at hf <;> simp_all
    simp [State.illegalCommand, hadm]

/-- SEQ's turn is its micro-turn, taken `seqFuel` times (20_memory.md R51). -/
theorem State.seqTurn_eq_iterate (s : State) : s.seqTurn = .next (State.microTurn^[seqFuel] s) := by
  unfold State.seqTurn
  cases he : s.seqEnabled with
  | false =>
    rw [State.microTurn_iterate_fixed (State.microTurn_of_not_enabled he)]; rfl
  | true =>
    rw [if_pos rfl]
    cases hd : decode s.cmd with
    | ok i => rw [← runSeq_eq_iterate _ _ hd, ← exec_eq_runSeq]
    | error e =>
      rw [show seqFuel = 31 + 1 from rfl, Function.iterate_succ_apply, State.microTurn_of_illegal he hd,
        State.microTurn_iterate_fixed (State.microTurn_illegalCommand hd)]

/-- The state in which a step takes its turn: the turn is off the schedule. -/
def State.unscheduled (s : State) : State := { s with sched := s.sched.tail }

@[simp] theorem State.unscheduled_constructed (s : State) : s.unscheduled.constructed = s.constructed := rfl
@[simp] theorem State.unscheduled_ch (s : State) : s.unscheduled.ch = s.ch := rfl
@[simp] theorem State.unscheduled_inv (s : State) : s.unscheduled.inv = s.inv := rfl
@[simp] theorem State.unscheduled_pmode (s : State) : s.unscheduled.pmode = s.pmode := rfl
@[simp] theorem State.unscheduled_stopb (s : State) : s.unscheduled.stopb = s.stopb := rfl
@[simp] theorem State.unscheduled_cfgSet (s : State) : s.unscheduled.cfgSet = s.cfgSet := rfl
@[simp] theorem State.unscheduled_timer (s : State) : s.unscheduled.timer = s.timer := rfl
@[simp] theorem State.unscheduled_portData (s : State) : s.unscheduled.portData = s.portData := rfl
@[simp] theorem State.unscheduled_portMode (s : State) : s.unscheduled.portMode = s.portMode := rfl
@[simp] theorem State.unscheduled_txb (s : State) : s.unscheduled.txb = s.txb := rfl
@[simp] theorem State.unscheduled_q (s : State) : s.unscheduled.q = s.q := rfl
@[simp] theorem State.unscheduled_busy (s : State) : s.unscheduled.busy = s.busy := rfl
@[simp] theorem State.unscheduled_cmd (s : State) : s.unscheduled.cmd = s.cmd := rfl
@[simp] theorem State.unscheduled_pos (s : State) : s.unscheduled.pos = s.pos := rfl
@[simp] theorem State.unscheduled_res (s : State) : s.unscheduled.res = s.res := rfl
@[simp] theorem State.unscheduled_ie (s : State) : s.unscheduled.ie = s.ie := rfl
@[simp] theorem State.unscheduled_ieSaved (s : State) : s.unscheduled.ieSaved = s.ieSaved := rfl
@[simp] theorem State.unscheduled_fault (s : State) : s.unscheduled.fault = s.fault := rfl
@[simp] theorem State.unscheduled_cfg (s : State) : s.unscheduled.cfg = s.cfg := rfl
@[simp] theorem State.unscheduled_host (s : State) : s.unscheduled.host = s.host := rfl
@[simp] theorem State.unscheduled_sched (s : State) : s.unscheduled.sched = s.sched.tail := rfl

theorem step_eq_turn_unscheduled (s : State) : step s = s.unscheduled.turn s.nextTurn := rfl

/-- Where a step may lead: a number of SEQ's micro-turns, or one turn of another agent (00_scope.md R6). -/
inductive State.Moves (s : State) : State → Prop
  /-- SEQ runs, or takes one micro-step. -/
  | seq (hu : s.nextTurn = .seq ∨ s.nextTurn = .micro) (n : Nat) : s.Moves (State.microTurn^[n] s.unscheduled)
  | host (hu : s.nextTurn = .host) : s.Moves s.unscheduled.hostTurn
  | clk (hu : s.nextTurn = .clk) : s.Moves s.unscheduled.tmrClk
  | matchEvent (hu : s.nextTurn = .matchEvent) : s.Moves s.unscheduled.tmrMatch
  /-- ENV with the interrupts on, or the platform, changes a port bit. -/
  | port (a : PortAct) (hu : s.nextTurn = .env a ∨ s.nextTurn = .platform a) (t : State)
      (ha : s.unscheduled.portAct a = .next t) : s.Moves t
  /-- ENV with the interrupts off. -/
  | masked : s.Moves s.unscheduled
  | rst (hu : s.nextTurn = .rst) : s.Moves s.unscheduled.rst

/-- All a step of the machine can do. -/
theorem step_moves {s t : State} (h : step s = .next t) : s.Moves t := by
  rw [step_eq_turn_unscheduled] at h
  rcases State.turn_cases h with ⟨hu, rfl⟩ | ⟨hu, h⟩ | ⟨hu, rfl⟩ | ⟨hu, rfl⟩ | ⟨hu, rfl⟩ | ⟨a, hu, h⟩ |
    ⟨a, hu, h⟩ | ⟨hu, rfl⟩
  · exact .host hu
  · rw [State.seqTurn_eq_iterate] at h
    injection h with h
    exact h ▸ .seq (.inl hu) seqFuel
  · exact .seq (.inr hu) 1
  · exact .clk hu
  · exact .matchEvent hu
  · unfold State.envTurn at h
    split at h
    · exact .port a (.inl hu) t h
    · cases h; exact .masked
  · exact .port a (.inr hu) t h
  · exact .rst hu

/-- All HOST's turn can do (20_memory.md R59): nothing, the acceptance of a word by an open port, or a write
of `IE` between commands. -/
theorem State.hostTurn_cases (s : State) :
    s.hostTurn = s ∨
    (s.busy = false ∧ s.fault = 0 ∧
      ((∃ w rest, s.hostTurn = { s.accept w with host := rest }) ∨
       ∃ b rest, s.hostTurn = { s with ie := b, host := rest })) := by
  unfold State.hostTurn State.hostEnabled
  split
  · next he =>
    obtain ⟨hb, hf⟩ : s.busy = false ∧ s.fault = 0 := by simpa using he
    split
    · exact .inl rfl
    · exact .inr ⟨hb, hf, .inl ⟨_, _, rfl⟩⟩
    · exact .inr ⟨hb, hf, .inr ⟨_, _, rfl⟩⟩
  · exact .inl rfl

/-! ## The first and the last micro-step of a command, and those between -/

/-- The first position of a command's body: where its admission leads (60_exceptions.md R162). -/
def firstPos : Instr → Pos
  | .construct .. => .construct (.bind 0)
  | .begin .. => .begin .storeParity
  | .write .. => .write (.latch 0)
  | .read | .available | .flush | .valid => .done
  | .destroy => .destroy .stopClock
  | .clkConfigure .. => .clkConfigure
  | .clkAwait => .clkAwait
  | .clkStop => .clkStop

/-- What a command's completion leaves in `RES` that holds `r` (10_state.md R20). -/
def resultOf (r : BitVec 32) : Instr → BitVec 32
  | .write .. => Config.resOk
  | .read | .available => Config.resNoData
  | .valid => Config.resTrue
  | .construct .. | .begin .. | .flush | .destroy | .clkConfigure .. | .clkAwait | .clkStop => r

/-- Every command starts with its admission (60_exceptions.md R162). -/
theorem micro_adm {s : State} (h : s.pos = .adm) (i : Instr) : micro i s = s.admitOrFault i (firstPos i) := by
  rw [← State.goto_eq_self h]; cases i <;> rfl

/-- Every command ends with its completion (30_encoding.md R75). -/
theorem micro_done {s : State} (h : s.pos = .done) (i : Instr) :
    micro i s = s.completeWith (resultOf s.res i) := by
  rw [← State.goto_eq_self h]; cases i <;> rfl

/-- At a position of another command nothing happens: the micro-step falls through. -/
theorem micro_of_not_fits {s : State} {i : Instr} (h : s.pos.fits i = false) : micro i s = s := by
  generalize hp : s.pos = p at h
  rw [← State.goto_eq_self hp]
  cases i <;> cases p <;> first | rfl | cases h

end Sys2Proof.Machine
end

section
/-! PROOFS. Who writes which element (10_state.md R10), and the statements that follow from it. -/

namespace Sys2Proof.Machine

/-! ## What a micro-step leaves alone -/

/-- A micro-step of a command's body neither completes the command nor faults it, writes no result, and leads
on inside the command. -/
theorem micro_body (i : Instr) (s : State) : s.pos ≠ .idle → s.pos ≠ .adm → s.pos ≠ .done →
    (micro i s).busy = s.busy ∧ (micro i s).fault = s.fault ∧ (micro i s).res = s.res ∧
      (micro i s).pos ≠ .idle ∧ (micro i s).pos ≠ .adm := by
  cases i <;>
    simp only [micro, microConstruct, microBegin, microWrite, microRead, microAvailable, microFlush,
      microValid, microDestroy, microClkConfigure, microClkAwait, microClkStop] <;>
    split <;> simp +contextual [*] <;> (repeat' split) <;> simp [*]

/-- R10's column "written by", for the commands: an element that the table does not give to the command `i`
has in `t` the value it has in `s`. No command sets the compare-match flag (10_state.md R15). -/
structure WritesByTable (i : Instr) (s t : State) : Prop where
  constructed : i.mnemonic ∉ ["CONSTRUCT", "DESTROY"] → t.constructed = s.constructed
  ch : i.mnemonic ∉ ["CONSTRUCT"] → t.ch = s.ch
  inv : i.mnemonic ∉ ["CONSTRUCT"] → t.inv = s.inv
  pmode : i.mnemonic ∉ ["BEGIN"] → t.pmode = s.pmode
  stopb : i.mnemonic ∉ ["BEGIN"] → t.stopb = s.stopb
  cfgSet : i.mnemonic ∉ ["BEGIN", "CONSTRUCT", "DESTROY"] → t.cfgSet = s.cfgSet
  run : i.mnemonic ∉ ["CLK_CONFIGURE", "CONSTRUCT", "BEGIN", "CLK_STOP", "DESTROY"] →
    t.timer.run = s.timer.run
  period : i.mnemonic ∉ ["CLK_CONFIGURE", "CONSTRUCT", "BEGIN"] →
    t.timer.div = s.timer.div ∧ t.timer.cmp = s.timer.cmp
  phase : i.mnemonic ∉ ["CLK_CONFIGURE", "CONSTRUCT", "BEGIN"] →
    t.timer.pre = s.timer.pre ∧ t.timer.cnt = s.timer.cnt
  ocf : i.mnemonic ∉ ["CLK_CONFIGURE", "CONSTRUCT", "BEGIN", "CLK_AWAIT", "WRITE"] →
    t.timer.ocf = s.timer.ocf
  clears : s.timer.ocf = false → t.timer.ocf = false
  portData : i.mnemonic ∉ ["CONSTRUCT", "WRITE"] → t.portData = s.portData
  portMode : i.mnemonic ∉ ["CONSTRUCT"] → t.portMode = s.portMode
  buffers : i.mnemonic ∉ ["WRITE"] → t.txb = s.txb ∧ t.q = s.q ∧ t.ieSaved = s.ieSaved
  res : i.mnemonic ∉ ["WRITE", "READ", "AVAILABLE", "VALID"] → t.res = s.res
  ie : i.mnemonic ∉ ["WRITE"] → t.ie = s.ie

theorem WritesByTable.refl (i : Instr) (s : State) : WritesByTable i s s := by
  constructor <;> simp

theorem WritesByTable.trans {i : Instr} {s t u : State} (h : WritesByTable i s t)
    (h' : WritesByTable i t u) : WritesByTable i s u where
  constructed hn := (h'.constructed hn).trans (h.constructed hn)
  ch hn := (h'.ch hn).trans (h.ch hn)
  inv hn := (h'.inv hn).trans (h.inv hn)
  pmode hn := (h'.pmode hn).trans (h.pmode hn)
  stopb hn := (h'.stopb hn).trans (h.stopb hn)
  cfgSet hn := (h'.cfgSet hn).trans (h.cfgSet hn)
  run hn := (h'.run hn).trans (h.run hn)
  period hn := by
    obtain ⟨h1, h2⟩ := h.period hn
    obtain ⟨h1', h2'⟩ := h'.period hn
    exact ⟨h1'.trans h1, h2'.trans h2⟩
  phase hn := by
    obtain ⟨h1, h2⟩ := h.phase hn
    obtain ⟨h1', h2'⟩ := h'.phase hn
    exact ⟨h1'.trans h1, h2'.trans h2⟩
  ocf hn := (h'.ocf hn).trans (h.ocf hn)
  clears hc := h'.clears (h.clears hc)
  portData hn := (h'.portData hn).trans (h.portData hn)
  portMode hn := (h'.portMode hn).trans (h.portMode hn)
  buffers hn := by
    obtain ⟨h1, h2, h3⟩ := h.buffers hn
    obtain ⟨h1', h2', h3'⟩ := h'.buffers hn
    exact ⟨h1'.trans h1, h2'.trans h2, h3'.trans h3⟩
  res hn := (h'.res hn).trans (h.res hn)
  ie hn := (h'.ie hn).trans (h.ie hn)

/-- Every line of every command's pseudocode writes what the table gives to the command. -/
theorem micro_writesByTable (i : Instr) (s : State) : WritesByTable i s (micro i s) := by
  cases i <;>
    simp only [micro, microConstruct, microBegin, microWrite, microRead, microAvailable, microFlush,
      microValid, microDestroy, microClkConfigure, microClkAwait, microClkStop] <;>
    split <;> constructor <;> simp [Instr.mnemonic, Timer.configure]

/-! ## SEQ's micro-turns in a row -/

theorem State.microTurn_keeps (s : State) :
    s.microTurn.cmd = s.cmd ∧ s.microTurn.cfg = s.cfg ∧ s.microTurn.host = s.host ∧
      s.microTurn.sched = s.sched := by
  rcases s.microTurn_cases with ⟨_, h⟩ | ⟨_, i, _, h⟩ | ⟨_, _, h⟩ <;> simp [h]

/-- SEQ changes neither the command word nor the parameters nor the inputs to come (10_state.md R18, R28). -/
theorem State.microTurn_iterate_keeps (s : State) (n : Nat) :
    (State.microTurn^[n] s).cmd = s.cmd ∧ (State.microTurn^[n] s).cfg = s.cfg ∧
      (State.microTurn^[n] s).host = s.host ∧ (State.microTurn^[n] s).sched = s.sched :=
  State.microTurn_iterate_induct
    (P := fun u => u.cmd = s.cmd ∧ u.cfg = s.cfg ∧ u.host = s.host ∧ u.sched = s.sched)
    (fun u hu => by simpa [State.microTurn_keeps u] using hu) n ⟨rfl, rfl, rfl, rfl⟩

/-- SEQ writes `FAULT` at its admission sequence only, and never returns there (60_exceptions.md R162). -/
theorem State.microTurn_fault {s : State} (h : s.pos ≠ .adm) :
    s.microTurn.fault = s.fault ∧ s.microTurn.pos ≠ .adm := by
  rcases s.microTurn_cases with ⟨_, h'⟩ | ⟨he, i, _, h'⟩ | ⟨_, _, h'⟩ <;> rw [h']
  · exact ⟨rfl, h⟩
  · obtain ⟨-, -, hidle, -⟩ := (State.seqEnabled_iff s).1 he
    by_cases hdone : s.pos = .done
    · simp [micro_done hdone]
    · obtain ⟨-, hfault, -, -, hpos⟩ := micro_body i s hidle h hdone
      exact ⟨hfault, hpos⟩
  · simp [h]

theorem State.microTurn_iterate_fault {s : State} (n : Nat)
    (h : (State.microTurn^[n] s).fault ≠ s.fault) : s.fault = 0 ∧ s.pos = .adm := by
  have hadm : s.pos = .adm := by
    by_contra hadm
    exact h (State.microTurn_iterate_induct (P := fun u => u.fault = s.fault ∧ u.pos ≠ .adm)
      (fun u hu => ⟨(State.microTurn_fault hu.2).1.trans hu.1, (State.microTurn_fault hu.2).2⟩) n
      ⟨rfl, hadm⟩).1
  refine ⟨by_contra fun hf => h ?_, hadm⟩
  rw [State.microTurn_iterate_fixed (State.microTurn_of_not_enabled (State.seqEnabled_of_fault hf))]

/-- SEQ lowers `BUSY` at the completion only, and raises it never (30_encoding.md R75). -/
theorem State.microTurn_busy (s : State) :
    s.microTurn.busy = s.busy ∨
      (s.microTurn.busy = false ∧ s.microTurn.pos = .idle ∧ s.microTurn.fault = 0) := by
  rcases s.microTurn_cases with ⟨_, h⟩ | ⟨he, i, _, h⟩ | ⟨_, _, h⟩ <;> rw [h]
  · exact .inl rfl
  · obtain ⟨hb, hf, hidle, -⟩ := (State.seqEnabled_iff s).1 he
    by_cases hadm : s.pos = .adm
    · simp [micro_adm hadm]
    by_cases hdone : s.pos = .done
    · simp [micro_done hdone, hf]
    · exact .inl (micro_body i s hidle hadm hdone).1
  · simp

theorem State.microTurn_iterate_busy (s : State) (n : Nat) :
    (State.microTurn^[n] s).busy = s.busy ∨ ((State.microTurn^[n] s).busy = false ∧
      (State.microTurn^[n] s).pos = .idle ∧ (State.microTurn^[n] s).fault = 0) := by
  refine State.microTurn_iterate_induct
    (P := fun u => u.busy = s.busy ∨ (u.busy = false ∧ u.pos = .idle ∧ u.fault = 0)) (fun u hu => ?_) n
    (.inl rfl)
  rcases hu with hu | hu
  · rw [← hu]; exact u.microTurn_busy
  · rw [State.microTurn_of_not_enabled (by simp [State.seqEnabled, hu.1])]; exact .inr hu

/-- All that SEQ's micro-turns in a row can write: what R10's table gives to the running command, besides
`BUSY`, `POS` and `FAULT`; or nothing but `FAULT`. -/
theorem State.microTurn_iterate_writes (s : State) (n : Nat) :
    (s.seqEnabled = true ∧ ∃ i, decode s.cmd = .ok i ∧ WritesByTable i s (State.microTurn^[n] s)) ∨
    ∃ f, State.microTurn^[n] s = { s with fault := f } := by
  cases he : s.seqEnabled with
  | false =>
    exact .inr ⟨s.fault, State.microTurn_iterate_fixed (State.microTurn_of_not_enabled he) n⟩
  | true =>
    cases hd : decode s.cmd with
    | ok i =>
      refine .inl ⟨rfl, i, rfl, And.left (State.microTurn_iterate_induct
        (P := fun u => WritesByTable i s u ∧ decode u.cmd = .ok i) (fun u hu => ?_) n
        ⟨.refl i s, hd⟩)⟩
      refine ⟨?_, by rw [u.microTurn_keeps.1]; exact hu.2⟩
      cases hu' : u.seqEnabled with
      | false => rw [State.microTurn_of_not_enabled hu']; exact hu.1
      | true => rw [State.microTurn_of_decode hu' hu.2]; exact hu.1.trans (micro_writesByTable i u)
    | error e =>
      cases n with
      | zero => exact .inr ⟨s.fault, rfl⟩
      | succ n =>
        rw [Function.iterate_succ_apply, State.microTurn_of_illegal he hd,
          State.microTurn_iterate_fixed (State.microTurn_illegalCommand hd)]
        unfold State.illegalCommand State.raiseFault
        split_ifs
        · exact .inr ⟨_, rfl⟩
        · exact .inr ⟨s.fault, rfl⟩
        · exact .inr ⟨s.fault, rfl⟩

/-! ## TMR -/

/-- A clock changes the phase and sets the flag, no more (40_clock.md R84). -/
theorem Timer.clk_keeps (t : Timer) :
    t.clk.run = t.run ∧ t.clk.div = t.div ∧ t.clk.cmp = t.cmp ∧ (t.ocf = true → t.clk.ocf = true) := by
  unfold Timer.clk
  split_ifs <;> simp

/-- TMR changes the phase and sets the flag, no more, at a clock (40_clock.md R84, R87). -/
theorem State.tmrClk_keeps (s : State) :
    s.tmrClk.timer.run = s.timer.run ∧ s.tmrClk.timer.div = s.timer.div ∧
      s.tmrClk.timer.cmp = s.timer.cmp ∧ (s.timer.ocf = true → s.tmrClk.timer.ocf = true) := by
  rw [State.tmrClk_timer]
  split
  · simp
  · exact s.timer.clk_keeps

/-- TMR changes the phase and sets the flag, no more, at the match event (40_clock.md R85, R87). -/
theorem State.tmrMatch_keeps (s : State) :
    s.tmrMatch.timer.run = s.timer.run ∧ s.tmrMatch.timer.div = s.timer.div ∧
      s.tmrMatch.timer.cmp = s.timer.cmp ∧ (s.timer.ocf = true → s.tmrMatch.timer.ocf = true) := by
  rw [State.tmrMatch_timer]
  split <;> simp [Timer.matchEvent]

/-! ## The statements -/

/-- Settles O18: SEQ and HOST have no step while a fault stands, and the other agents do not write it. -/
theorem faultIsStickyUntilReset : Obligations.FaultIsStickyUntilReset := by
  unfold Obligations.FaultIsStickyUntilReset
  refine ⟨fun s t hu h => ?_, fun s c => rfl, fun s t h hf hne => ?_⟩
  · rw [step_eq_turn, hu] at h
    cases h
    rfl
  · cases step_moves h with
    | seq hu n =>
      obtain ⟨hf0, -⟩ := State.microTurn_iterate_fault n hne
      exact absurd hf0 hf
    | host hu =>
      rcases s.unscheduled.hostTurn_cases with h | ⟨_, hf0, _⟩
      · rw [h] at hne; exact absurd rfl hne
      · exact absurd hf0 hf
    | clk | matchEvent => simp at hne
    | port a hu t ha =>
      obtain ⟨_, _, _, ⟨_, rfl⟩ | ⟨_, rfl⟩⟩ := State.portAct_cases ha <;> exact absurd rfl hne
    | masked => exact absurd rfl hne
    | rst hu => exact hu

/-- Settles O10: HOST has no step while `BUSY` is 1, and SEQ lowers it at the completion only. -/
theorem commandStaysWhileBusy : Obligations.CommandStaysWhileBusy := by
  unfold Obligations.CommandStaysWhileBusy
  intro s t h hrst hb
  cases step_moves h with
  | seq hu n =>
    obtain ⟨hcmd, -, hhost, -⟩ := s.unscheduled.microTurn_iterate_keeps n
    refine ⟨hcmd, hhost, fun hfall => ?_⟩
    rcases s.unscheduled.microTurn_iterate_busy n with hbusy | ⟨-, hpos, hf⟩
    · rw [hbusy, State.unscheduled_busy, hb] at hfall; cases hfall
    · have hfault := State.microTurn_iterate_fault (s := s.unscheduled) n
      rw [hf] at hfault
      exact ⟨hpos, by_contra fun hne => hne (hfault (Ne.symm hne)).1, hf, hu⟩
  | host hu =>
    rcases s.unscheduled.hostTurn_cases with h | ⟨hidle, _⟩
    · simp [h, hb]
    · rw [State.unscheduled_busy, hb] at hidle; cases hidle
  | clk | matchEvent | masked => simp [hb]
  | port a hu t ha =>
    obtain ⟨_, _, _, ⟨_, rfl⟩ | ⟨_, rfl⟩⟩ := State.portAct_cases ha <;> simp [hb]
  | rst hu => exact absurd hu hrst

/-- Settles O5: SEQ's turn writes by the table of the command it runs, every other agent its own elements. -/
theorem elementsAreWrittenByTheirCommandsOnly : Obligations.ElementsAreWrittenByTheirCommandsOnly := by
  unfold Obligations.ElementsAreWrittenByTheirCommandsOnly
  intro s t h hrst
  cases step_moves h with
  | seq hu n =>
    have hfault := State.microTurn_iterate_fault (s := s.unscheduled) n
    obtain ⟨hcmd, hcfg, -, -⟩ := s.unscheduled.microTurn_iterate_keeps n
    have hbusy := s.unscheduled.microTurn_iterate_busy n
    rcases s.unscheduled.microTurn_iterate_writes n with ⟨he, i, hd, hw⟩ | ⟨f, hf⟩
    · generalize State.microTurn^[n] _ = t at *
      have runs : ∀ names, ¬i.mnemonic ∉ names → s.runsOneOf names := fun names hn =>
        ⟨hu, he, i, hd, not_not.1 hn⟩
      refine ⟨fun h => runs _ fun hn => h (hw.constructed hn), fun h => runs _ fun hn => h (hw.ch hn),
        fun h => runs _ fun hn => h (hw.inv hn), fun h => runs _ fun hn => h (hw.pmode hn),
        fun h => runs _ fun hn => h (hw.stopb hn), fun h => runs _ fun hn => h (hw.cfgSet hn),
        fun h => runs _ fun hn => h (hw.run hn), fun h => runs _ fun hn => ?_,
        fun h => .inl (runs _ fun hn => ?_), fun h => .inl (runs _ fun hn => h (hw.ocf hn)),
        fun h => .inl (runs _ fun hn => h (hw.portData hn)),
        fun h => .inl (runs _ fun hn => h (hw.portMode hn)), fun h => runs _ fun hn => ?_,
        fun h h' => ?_, fun _ _ => hu, fun h => absurd hcmd h, fun _ => .inr hu,
        fun h => runs _ fun hn => h (hw.res hn), fun h => .inl (runs _ fun hn => h (hw.ie hn)),
        fun h => ⟨(hfault h).1, (hfault h).2, hu⟩, hcfg⟩
      · simp [hw.period hn] at h
      · simp [hw.phase hn] at h
      · simp [hw.buffers hn] at h
      · simp [h', h] at hbusy
    · rw [hf] at hfault ⊢
      simpa +contextual [hu] using hfault
  | host hu =>
    rcases s.unscheduled.hostTurn_cases with h | ⟨hb, _, ⟨w, rest, h⟩ | ⟨b, rest, h⟩⟩ <;>
      rw [h] <;> simp [hu]
  | clk hu =>
    obtain ⟨hrun, hdiv, hcmp, -⟩ := s.unscheduled.tmrClk_keeps
    simp [hu, hrun, hdiv, hcmp, -State.tmrClk_timer]
  | matchEvent hu =>
    obtain ⟨hrun, hdiv, hcmp, -⟩ := s.unscheduled.tmrMatch_keeps
    simp [hu, hrun, hdiv, hcmp, -State.tmrMatch_timer]
  | port a hu t ha =>
    have hex : ∃ a, s.nextTurn = .env a ∨ s.nextTurn = .platform a := ⟨a, hu⟩
    obtain ⟨_, _, _, ⟨_, rfl⟩ | ⟨_, rfl⟩⟩ := State.portAct_cases ha <;> simp +contextual [hex]
  | masked => simp +contextual
  | rst hu => exact absurd hu hrst

/-- Settles O32: the falls are O5's row of `T_OCF` less TMR, which only sets the flag; SEQ never sets it. -/
theorem flagIsClearedByWaitsAndStartsOnly : Obligations.FlagIsClearedByWaitsAndStartsOnly := by
  unfold Obligations.FlagIsClearedByWaitsAndStartsOnly
  intro s t h hrst
  cases step_moves h with
  | seq hu n =>
    rcases s.unscheduled.microTurn_iterate_writes n with ⟨he, i, hd, hw⟩ | ⟨f, hf⟩
    · refine ⟨fun hset hclear => ⟨hu, he, i, hd, by_contra fun hn => ?_⟩, fun hclear hset => ?_⟩
      · simp [hw.ocf hn, hset] at hclear
      · simp [hw.clears hclear] at hset
    · simp +contextual [hf]
  | host hu =>
    rcases s.unscheduled.hostTurn_cases with h | ⟨_, _, ⟨w, rest, h⟩ | ⟨b, rest, h⟩⟩ <;> rw [h] <;>
      simp +contextual
  | clk hu =>
    obtain ⟨-, -, -, hkeep⟩ := s.unscheduled.tmrClk_keeps
    refine ⟨fun hset hclear => ?_, fun _ _ => .inl hu⟩
    rw [hkeep hset] at hclear; cases hclear
  | matchEvent hu =>
    obtain ⟨-, -, -, hkeep⟩ := s.unscheduled.tmrMatch_keeps
    refine ⟨fun hset hclear => ?_, fun _ _ => .inr hu⟩
    rw [hkeep hset] at hclear; cases hclear
  | port a hu t ha =>
    obtain ⟨_, _, _, ⟨_, rfl⟩ | ⟨_, rfl⟩⟩ := State.portAct_cases ha <;> simp +contextual
  | masked => simp +contextual
  | rst hu => exact absurd hu hrst

/-- What a run of a command's micro-steps has written to `RES`: nothing before the completion, then the
command's result. -/
theorem runSeq_res (i : Instr) (n : Nat) (s : State) (hb : s.busy = true) :
    ((runSeq (micro i) n s).busy = true ∧ (runSeq (micro i) n s).res = s.res) ∨
    ((runSeq (micro i) n s).busy = false ∧ (runSeq (micro i) n s).fault = 0 ∧
      (runSeq (micro i) n s).res = resultOf s.res i) := by
  refine runSeq_induct (P := fun u => (u.busy = true ∧ u.res = s.res) ∨
    (u.busy = false ∧ u.fault = 0 ∧ u.res = resultOf s.res i)) (fun u he hu => ?_) n s (.inl ⟨hb, rfl⟩)
  obtain ⟨hub, huf, hidle, -⟩ := (State.seqEnabled_iff u).1 he
  obtain ⟨-, hur⟩ : u.busy = true ∧ u.res = s.res := by simpa [hub] using hu
  by_cases hadm : u.pos = .adm
  · exact .inl (by simp [micro_adm hadm, hub, hur])
  by_cases hdone : u.pos = .done
  · exact .inr (by simp [micro_done hdone, huf, hur])
  · obtain ⟨hbusy, -, hres, -⟩ := micro_body i u hidle hadm hdone
    exact .inl ⟨hbusy.trans hub, hres.trans hur⟩

/-- Settles O23: `RES` is written by the micro-step that completes the command, and there is no other after
it. -/
theorem resultIsWrittenAtCompletionOnly : Obligations.ResultIsWrittenAtCompletionOnly := by
  unfold Obligations.ResultIsWrittenAtCompletionOnly
  intro s t i h
  rw [exec_eq_runSeq] at h
  injection h with h
  subst h
  cases hb : s.busy with
  | false => simp [runSeq_of_not_enabled (micro i) seqFuel (s := s) (by simp [State.seqEnabled, hb])]
  | true =>
    rcases runSeq_res i seqFuel s hb with ⟨hb', hr⟩ | ⟨hb', hf, hr⟩
    · simp [hb', hr]
    · refine ⟨by simp [hb'], by simp [hf], fun _ _ => ?_⟩
      rw [hr]
      cases i <;> rfl

end Sys2Proof.Machine
end

section
/-! PROOFS. The invariant of 10_state.md R31: every step keeps it. -/

namespace Sys2Proof.Machine

/-! ## The invariant at a position -/

/-- What a CONSTRUCT of `pins` and `inv` has done before its position `p` (41_lifecycle.md R101, R102). -/
structure State.ConstructedUpTo (s : State) (pins : Lanes PinId) (inv : Bool) (p : ConstructPos) : Prop where
  checked : pinsOk s.cfg pins = true
  records : ∀ i, p.recordWritten i = true → s.ch.get i = channelOf s.cfg (pins.get i)
  polarity : p.polarityWritten = true → s.inv = inv
  latches : ∀ i, p.latchDriven i = true → s.txd i = idleLevel inv
  modes : ∀ i, p.modeSwitched i = true → s.oe i = true

/-- What the invariant says of a SEQ that stands at a position. -/
def State.Stands (s : State) : Pos → Prop
  | .construct p => s.constructed = false ∧ ∃ p0 p1 p2 p3 inv,
      decode s.cmd = .ok (.construct p0 p1 p2 p3 inv) ∧ s.ConstructedUpTo ⟨p0, p1, p2, p3⟩ inv p
  | .begin p => s.constructed = true ∧ (p = .storeParity ∨ s.pmode ≠ 3)
  | .write p => s.constructed = true ∧ s.cfgSet = true ∧ p.taken s.cfg s.pmode s.stopb = true ∧
      (p.critical = true → s.ie = false)
  | .destroy p => p = .clearConstructed → s.cfgSet = false
  | .idle | .adm | .clkConfigure | .clkAwait | .clkStop | .done => True

/-- The invariant of a state whose SEQ is to stand at `p`, without `BUSY` and `FAULT`. -/
structure State.InvAt (s : State) (p : Pos) : Prop where
  cfgOk : s.cfg.ok = true
  dataOk : s.portData.inRange s.cfg = true
  modeOk : s.portMode.inRange s.cfg = true
  cntBound : s.timer.run = true → s.timer.cmp ≠ 0 → s.timer.cnt.toNat < s.timer.cmp.toNat
  preBound : s.timer.run = true → s.timer.div ≠ 0 → s.timer.pre.toNat < s.timer.div.toNat
  pinsValid : s.constructed = true → pinsOk s.cfg (.ofFn fun i => (s.ch.get i).pin) = true
  records : s.constructed = true → ∀ i, channelOf s.cfg (s.ch.get i).pin = s.ch.get i
  outputs : s.constructed = true → ∀ i, s.oe i = true
  rests : s.constructed = true → ∀ i, p.lineRests i = true → s.txd i = idleLevel s.inv
  config : s.cfgSet = true → s.constructed = true ∧ s.pmode ≠ 3
  stands : s.Stands p

/-- The invariant, sorted by what it says of `BUSY`, of `FAULT` and of SEQ's position. -/
theorem State.inv_iff (s : State) :
    s.Inv ↔ (s.busy = true ↔ s.pos ≠ .idle) ∧ (s.fault ≠ 0 → s.pos = .adm ∧ s.fault.toNat ≤ 5) ∧
      s.InvAt s.pos := by
  constructor
  · intro h
    refine ⟨h.busyPos, h.faultPos, { h with stands := ?_ }⟩
    cases hp : s.pos with
    | construct p =>
      obtain ⟨hc, p0, p1, p2, p3, inv, hd, h1, h2, h3, h4, h5⟩ := h.constructing p hp
      exact ⟨hc, p0, p1, p2, p3, inv, hd, h1, h2, h3, h4, h5⟩
    | begin p => exact h.beginning p hp
    | write p =>
      obtain ⟨hc, hs⟩ := h.writing p hp
      exact ⟨hc, hs, h.taken p hp, fun hcr => h.critical (by rw [hp]; exact hcr)⟩
    | destroy p => rintro rfl; exact h.destroying hp
    | idle | adm | clkConfigure | clkAwait | clkStop | done => trivial
  · rintro ⟨hbusy, hfault, h⟩
    have stands : ∀ {p}, s.pos = p → s.Stands p := fun hp => hp ▸ h.stands
    exact { h with
      busyPos := hbusy
      faultPos := hfault
      critical := fun hcr => by
        cases hp : s.pos with
        | write p =>
          obtain ⟨-, -, -, hie⟩ := stands hp
          rw [hp] at hcr
          exact hie hcr
        | idle | adm | construct | begin | destroy | clkConfigure | clkAwait | clkStop | done =>
          rw [hp] at hcr; cases hcr
      writing := fun p hp => by
        obtain ⟨hc, hs, -⟩ := stands hp
        exact ⟨hc, hs⟩
      taken := fun p hp => by
        obtain ⟨-, -, ht, -⟩ := stands hp
        exact ht
      beginning := fun p hp => stands hp
      destroying := fun hp => stands hp rfl
      constructing := fun p hp => by
        obtain ⟨hc, p0, p1, p2, p3, inv, hd, h⟩ := stands hp
        exact ⟨hc, p0, p1, p2, p3, inv, hd, h.checked, h.records, h.polarity, h.latches, h.modes⟩ }

/-- The invariant at SEQ's own position. -/
theorem State.Inv.at {s : State} (h : s.Inv) : s.InvAt s.pos := by
  obtain ⟨-, -, hat⟩ := (State.inv_iff s).1 h
  exact hat

/-- What the invariant says of a position reads neither the timer nor `POS`. -/
theorem State.Stands.withTimer {s : State} {p : Pos} (h : s.Stands p) (c : Timer) (q : Pos) :
    State.Stands { s with timer := c, pos := q } p := by
  cases p with
  | construct p =>
    obtain ⟨hc, p0, p1, p2, p3, inv, hd, hu⟩ := h
    exact ⟨hc, p0, p1, p2, p3, inv, hd, { hu with }⟩
  | begin | write | destroy | idle | adm | clkConfigure | clkAwait | clkStop | done => exact h

/-- The invariant at a position does not read `POS`. -/
theorem State.InvAt.goto {s : State} {p : Pos} (h : s.InvAt p) (q : Pos) : (s.goto q).InvAt p :=
  { h with stands := h.stands.withTimer s.timer q }

/-! ## The timer's bounds (R31b) -/

/-- A clock keeps the counter below the compare value (40_clock.md R84). -/
theorem Timer.cnt_clk_lt {t : Timer} (h : t.run = true → t.cmp ≠ 0 → t.cnt.toNat < t.cmp.toNat)
    (hr : t.run = true) (hc : t.cmp ≠ 0) : t.clk.cnt.toNat < t.clk.cmp.toNat := by
  have hlt := h hr hc
  have hcmp : t.cmp.toNat < 2 ^ 16 := t.cmp.isLt
  unfold Timer.clk
  split_ifs with _ _ hm
  · exact hlt
  · exact BitVec.toNat_pos_of_ne_zero hc
  · have hne : ¬t.cmp = 0 → ¬t.cnt.toNat + 1 = t.cmp.toNat := by simpa [Timer.tickMatches] using hm
    have hne := hne hc
    rw [BitVec.toNat_add_of_lt] <;> simp <;> omega
  · exact hlt

/-- A clock keeps the prescaler phase below the divider (40_clock.md R84). -/
theorem Timer.pre_clk_lt {t : Timer} (h : t.run = true → t.div ≠ 0 → t.pre.toNat < t.div.toNat)
    (hr : t.run = true) (hd : t.div ≠ 0) : t.clk.pre.toNat < t.clk.div.toNat := by
  have hlt := h hr hd
  have hdiv : t.div.toNat < 2 ^ 16 := t.div.isLt
  unfold Timer.clk
  split_ifs
  · exact BitVec.toNat_pos_of_ne_zero hd
  · exact BitVec.toNat_pos_of_ne_zero hd
  · rw [BitVec.toNat_add_of_lt] <;> simp <;> omega

/-! ## Pins -/

/-- A constructed block, bound to its records, has its channels at four different port bits. -/
theorem State.InvAt.placed {s : State} {p : Pos} (h : s.InvAt p) (hc : s.constructed = true) :
    ∃ px py, s.Placed px py :=
  State.placed_of_records h.cfgOk (h.pinsValid hc) fun i => by rw [Lanes.get_ofFn, h.records hc i]

theorem PortFile.wf_of_inRange {c : Config} {f : PortFile} (h : f.inRange c = true) : f.wf = true :=
  ((PortFile.inRange_iff c f).1 h).1

/-- A pin write keeps the data registers within the port space. -/
theorem State.Placed.inRange_pinWrite {s : State} {px py : Fin 4 → Nat} (h : s.Placed px py)
    (hr : s.portData.inRange s.cfg = true) (i : Fin 4) (b : Level) :
    (s.pinWrite i b).portData.inRange s.cfg = true := by
  rw [State.pinWrite_portData, h.mask, h.port]
  exact PortFile.inRange_drive hr (h.portLt i) (h.bitLt i) b

/-- A mode switch keeps the mode registers within the port space. -/
theorem State.Placed.inRange_pinMode {s : State} {px py : Fin 4 → Nat} (h : s.Placed px py)
    (hr : s.portMode.inRange s.cfg = true) (i : Fin 4) : (s.pinMode i).portMode.inRange s.cfg = true := by
  rw [State.pinMode_portMode, h.mask, h.port]
  exact PortFile.inRange_drive hr (h.portLt i) (h.bitLt i) true

/-! ## Admission -/

/-- The decoder refuses the reserved parity mode (30_encoding.md R67). -/
theorem parity_of_decode {w : CmdWord} {rate : BitVec 32} {par : BitVec 2} {stop : BitVec 6}
    (h : decode w = .ok (.begin rate par stop)) : par ≠ 3 := by
  revert h
  unfold decode decodeC decodeB decodeW decodeK decodeN
  repeat'
    refine iteInduction (motive := fun x : Except DecodeError Instr => x = .ok _ → par ≠ 3)
      (fun _ => ?_) fun _ => ?_
  all_goals (intro h; cases h)
  assumption

/-- Where no check fails, SEQ may stand at the first position of the command's body (60_exceptions.md
R162). -/
theorem stands_firstPos {s : State} {i : Instr} (hd : decode s.cmd = .ok i) (h : admission s i = none) :
    s.Stands (firstPos i) := by
  cases i with
  | construct p0 p1 p2 p3 inv =>
    obtain ⟨hc, hp⟩ : s.constructed = false ∧ pinsOk s.cfg ⟨p0, p1, p2, p3⟩ = true := by
      simp only [admission] at h
      split_ifs at h with h1 h2
      exact ⟨by simpa using h1, h2⟩
    exact ⟨hc, p0, p1, p2, p3, inv, hd, hp, nofun, nofun, nofun, nofun⟩
  | begin rate par stop =>
    simp only [admission, needConstructed] at h
    split_ifs at h with _ h1
    exact ⟨h1, .inl rfl⟩
  | write d0 d1 d2 d3 =>
    simp only [admission] at h
    split_ifs at h with h1 h2
    exact ⟨h1, h2, rfl, nofun⟩
  | destroy => nofun
  | read | available | flush | valid | clkConfigure | clkAwait | clkStop => trivial

/-- Every line rests wherever an admission may lead. -/
theorem lineRests_firstPos (i : Instr) (j : Fin 4) : (firstPos i).lineRests j = true := by
  cases i <;> rfl

/-- The fault codes are at most 5 (60_exceptions.md R161). -/
theorem FaultCode.bits_le (c : FaultCode) : c.bits.toNat ≤ 5 := by
  cases c <;> decide

/-- Fault entry keeps the invariant (60_exceptions.md R163). -/
theorem State.Inv.raiseFault {s : State} (h : s.Inv) (hp : s.pos = .adm) (c : FaultCode) :
    (s.raiseFault c).Inv := by
  unfold State.raiseFault
  split
  · exact { h with faultPos := fun _ => ⟨hp, c.bits_le⟩ }
  · exact h

/-- The admission keeps the invariant, whether it raises a fault or leads on. -/
theorem State.Inv.admitOrFault {s : State} {i : Instr} (h : s.Inv) (hp : s.pos = .adm)
    (hd : decode s.cmd = .ok i) (hf : s.fault = 0) : (s.admitOrFault i (firstPos i)).Inv := by
  rcases s.admitOrFault_cases i (firstPos i) with ⟨hn, he⟩ | ⟨c, -, he⟩ <;> rw [he]
  · have hat : s.InvAt .adm := hp ▸ h.at
    have hbusy : s.busy = true := h.busyPos.2 (by simp [hp])
    refine (State.inv_iff _).2 ⟨?_, fun hne => absurd hf hne, ?_⟩
    · simp only [State.goto_busy, hbusy, State.goto_pos, true_iff]
      cases i <;> nofun
    · rw [State.goto_pos]
      refine State.InvAt.goto ?_ _
      exact { hat with
        rests := fun hc j _ => hat.rests hc j rfl
        stands := stands_firstPos hd hn }
  · exact h.raiseFault hp c

end Sys2Proof.Machine
end

section
/-! PROOFS. The invariant of 10_state.md R31: the micro-steps of the commands' bodies keep it. -/

namespace Sys2Proof.Machine

variable {s : State}

/-- A timer just started is below its bounds (40_clock.md R81, R90). -/
theorem Timer.configure_cnt_lt {div cmp : BitVec 16} (h : cmp ≠ 0) :
    (Timer.configure div cmp).cnt.toNat < (Timer.configure div cmp).cmp.toNat := BitVec.toNat_pos_of_ne_zero h

theorem Timer.configure_pre_lt {div cmp : BitVec 16} (h : div ≠ 0) :
    (Timer.configure div cmp).pre.toNat < (Timer.configure div cmp).div.toNat := BitVec.toNat_pos_of_ne_zero h

/-! ## CLK_CONFIGURE, CLK_AWAIT, CLK_STOP, DESTROY, BEGIN -/

theorem invAt_microClkConfigure (h : s.InvAt .clkConfigure) (div cmp : BitVec 16) :
    (microClkConfigure div cmp (s.goto .clkConfigure)).InvAt .done :=
  { h with
    cntBound := fun _ => Timer.configure_cnt_lt
    preBound := fun _ => Timer.configure_pre_lt }

/-- An `await tick` keeps the invariant when it leads to a position that the invariant allows. -/
theorem invAt_awaitTick {p q : Pos} (hp : s.pos = p) (h : s.InvAt p) (h' : s.InvAt q) :
    (s.awaitTick q).InvAt (s.awaitTick q).pos := by
  unfold State.awaitTick
  split
  · exact { h' with stands := h'.stands.withTimer _ _ }
  · rw [hp]; exact h

theorem invAt_microClkStop (h : s.InvAt .clkStop) : (microClkStop (s.goto .clkStop)).InvAt .done :=
  { h with cntBound := nofun, preBound := nofun }

theorem invAt_microDestroy {p : DestroyPos} (h : s.InvAt (.destroy p)) :
    (microDestroy (s.goto (.destroy p))).InvAt (microDestroy (s.goto (.destroy p))).pos := by
  cases p with
  | stopClock => exact { h with cntBound := nofun, preBound := nofun, stands := nofun }
  | clearCfgSet => exact { h with config := nofun, stands := fun _ => rfl }
  | clearConstructed =>
    have hcfg : s.cfgSet = false := h.stands rfl
    exact { h with
      pinsValid := nofun
      records := nofun
      outputs := nofun
      rests := nofun
      config := fun hc => absurd (hcfg.symm.trans hc) (by decide)
      stands := trivial }

theorem invAt_microBegin {p : BeginPos} (h : s.InvAt (.begin p)) (rate : BitVec 32) {par : BitVec 2}
    (hpar : par ≠ 3) (stop : BitVec 6) :
    (microBegin rate par stop (s.goto (.begin p))).InvAt
      (microBegin rate par stop (s.goto (.begin p))).pos := by
  obtain ⟨hc, hmode⟩ := h.stands
  cases p with
  | storeParity =>
    exact { h with config := fun hs => ⟨(h.config hs).1, hpar⟩, stands := ⟨hc, .inr hpar⟩ }
  | storeStop => exact { h with stands := ⟨hc, .inr (hmode.resolve_left nofun)⟩ }
  | setCfgSet =>
    have hmode := hmode.resolve_left nofun
    exact { h with config := fun _ => ⟨hc, hmode⟩, stands := ⟨hc, .inr hmode⟩ }
  | clockStart =>
    exact { h with
      cntBound := fun _ => Timer.configure_cnt_lt
      preBound := fun _ => Timer.configure_pre_lt
      stands := trivial }

/-! ## CONSTRUCT -/

/-- Past the polarity line CONSTRUCT has bound its channels to four different port bits. -/
theorem State.ConstructedUpTo.placed {p : ConstructPos} {pins : Lanes PinId} {inv : Bool}
    (h : s.ConstructedUpTo pins inv p) (hok : s.cfg.ok = true) (hp : ∀ i, p.recordWritten i = true) :
    ∃ px py, s.Placed px py :=
  State.placed_of_records hok h.checked fun i => h.records i (hp i)

/-- What a micro-step of CONSTRUCT's body adds to what the command has done. -/
theorem constructedUpTo_micro {p : ConstructPos} {p0 p1 p2 p3 : PinId} {inv : Bool}
    (h : s.InvAt (.construct p)) (hu : s.ConstructedUpTo ⟨p0, p1, p2, p3⟩ inv p) :
    ∀ q, (microConstruct p0 p1 p2 p3 inv (s.goto (.construct p))).pos = .construct q →
      (microConstruct p0 p1 p2 p3 inv (s.goto (.construct p))).ConstructedUpTo ⟨p0, p1, p2, p3⟩ inv q := by
  intro q hq
  cases p with
  | bind i =>
    have hrec : ∀ j, j.val ≤ i.val → (s.ch.set i (channelOf s.cfg (Lanes.get ⟨p0, p1, p2, p3⟩ i))).get j =
        channelOf s.cfg (Lanes.get ⟨p0, p1, p2, p3⟩ j) := by
      intro j hj
      rw [Lanes.get_set]
      split
      · next hij => rw [hij]
      · exact hu.records j (by simp [ConstructPos.recordWritten]; omega)
    rcases nextLane_cases i with ⟨k, hk, hki⟩ | ⟨hk, hi⟩ <;>
      simp only [microConstruct, State.goto_pos, hk, Pos.construct.injEq] at hq ⊢ <;> subst hq
    · exact { hu with
        records := fun j hj => hrec j (by simp [ConstructPos.recordWritten] at hj; omega)
        polarity := nofun, latches := nofun, modes := nofun }
    · exact { hu with
        records := fun j _ => hrec j (by omega)
        polarity := nofun, latches := nofun, modes := nofun }
  | polarity => cases hq; exact { hu with polarity := fun _ => rfl, latches := nofun, modes := nofun }
  | drive i =>
    cases hq
    obtain ⟨px, py, hpl⟩ := hu.placed h.cfgOk fun _ => rfl
    refine { hu with latches := fun j hj => ?_ }
    refine (hpl.txd_pinWrite (PortFile.wf_of_inRange h.dataOk) i j _).trans ?_
    split
    · exact congrArg idleLevel (hu.polarity rfl)
    · exact hu.latches j (by simp [ConstructPos.latchDriven] at hj ⊢; omega)
  | mode i =>
    obtain ⟨px, py, hpl⟩ := hu.placed h.cfgOk fun _ => rfl
    have hoe : ∀ j, j.val ≤ i.val → (s.pinMode i).oe j = true := by
      intro j hj
      rw [hpl.oe_pinMode (PortFile.wf_of_inRange h.modeOk) i j]
      split
      · rfl
      · exact hu.modes j (by simp [ConstructPos.modeSwitched]; omega)
    rcases nextLane_cases i with ⟨k, hk, hki⟩ | ⟨hk, hi⟩ <;>
      simp only [microConstruct, State.goto_pos, hk, Pos.construct.injEq] at hq ⊢ <;> subst hq
    · exact { hu with
        latches := fun j hj => hu.latches j (by simp [ConstructPos.latchDriven] at hj ⊢; omega)
        modes := fun j hj => hoe j (by simp [ConstructPos.modeSwitched] at hj; omega) }
    · exact { hu with
        latches := fun j _ => hu.latches j (by simp [ConstructPos.latchDriven]; omega)
        modes := fun j _ => hoe j (by omega) }
  | clockStart => cases hq; exact { hu with }
  | clearCfgSet => cases hq; exact { hu with }
  | setConstructed => cases hq

/-- The port files after a micro-step of CONSTRUCT's body. -/
theorem inRange_microConstruct {p : ConstructPos} {p0 p1 p2 p3 : PinId} {inv : Bool}
    (h : s.InvAt (.construct p)) (hu : s.ConstructedUpTo ⟨p0, p1, p2, p3⟩ inv p) :
    (microConstruct p0 p1 p2 p3 inv (s.goto (.construct p))).portData.inRange s.cfg = true ∧
      (microConstruct p0 p1 p2 p3 inv (s.goto (.construct p))).portMode.inRange s.cfg = true := by
  cases p with
  | drive i =>
    obtain ⟨px, py, hpl⟩ := hu.placed h.cfgOk fun _ => rfl
    exact ⟨hpl.inRange_pinWrite h.dataOk i _, h.modeOk⟩
  | mode i =>
    obtain ⟨px, py, hpl⟩ := hu.placed h.cfgOk fun _ => rfl
    exact ⟨h.dataOk, hpl.inRange_pinMode h.modeOk i⟩
  | bind | polarity | clockStart | clearCfgSet | setConstructed => exact ⟨h.dataOk, h.modeOk⟩

/-- Up to its last line CONSTRUCT goes on in its body. -/
theorem microConstruct_pos {p : ConstructPos} (hp : p ≠ .setConstructed) (p0 p1 p2 p3 : PinId) (inv : Bool)
    (s : State) : ∃ q, (microConstruct p0 p1 p2 p3 inv (s.goto (.construct p))).pos = .construct q := by
  cases p with
  | bind i | mode i =>
    rcases nextLane_cases i with ⟨k, hk, -⟩ | ⟨hk, -⟩ <;>
      simp only [microConstruct, State.goto_pos, hk] <;> exact ⟨_, rfl⟩
  | setConstructed => contradiction
  | polarity | drive | clockStart | clearCfgSet => exact ⟨_, rfl⟩

/-- The invariant of a block that is neither constructed nor configured. -/
theorem invAt_of_unconstructed {p : Pos} (hok : s.cfg.ok = true) (hdata : s.portData.inRange s.cfg = true)
    (hmode : s.portMode.inRange s.cfg = true)
    (hcnt : s.timer.run = true → s.timer.cmp ≠ 0 → s.timer.cnt.toNat < s.timer.cmp.toNat)
    (hpre : s.timer.run = true → s.timer.div ≠ 0 → s.timer.pre.toNat < s.timer.div.toNat)
    (hc : s.constructed = false) (hs : s.cfgSet = false) (hp : s.Stands p) : s.InvAt p := by
  have unconstructed : ∀ {P : Prop}, s.constructed = true → P := fun h => absurd (hc.symm.trans h) (by decide)
  exact {
    cfgOk := hok, dataOk := hdata, modeOk := hmode, cntBound := hcnt, preBound := hpre, stands := hp
    pinsValid := unconstructed, records := unconstructed, outputs := unconstructed, rests := unconstructed
    config := fun h => absurd (hs.symm.trans h) (by decide) }

/-- Up to its last line CONSTRUCT stands where the invariant allows. -/
theorem stands_microConstruct {p : ConstructPos} (h : s.InvAt (.construct p)) (hp : p ≠ .setConstructed)
    (hc : s.constructed = false) {p0 p1 p2 p3 : PinId} {inv : Bool}
    (hd : decode s.cmd = .ok (.construct p0 p1 p2 p3 inv)) (hu : s.ConstructedUpTo ⟨p0, p1, p2, p3⟩ inv p) :
    (microConstruct p0 p1 p2 p3 inv (s.goto (.construct p))).Stands
      (microConstruct p0 p1 p2 p3 inv (s.goto (.construct p))).pos := by
  obtain ⟨q, hq⟩ := microConstruct_pos hp p0 p1 p2 p3 inv s
  rw [hq]
  refine ⟨?_, p0, p1, p2, p3, inv, ?_, constructedUpTo_micro h hu q hq⟩
  · cases p with
    | setConstructed => contradiction
    | bind | polarity | drive | mode | clockStart | clearCfgSet => exact hc
  · rw [show (microConstruct p0 p1 p2 p3 inv (s.goto (.construct p))).cmd = s.cmd from
      micro_cmd (.construct p0 p1 p2 p3 inv) _]
    exact hd

theorem invAt_microConstruct {p : ConstructPos} (h : s.InvAt (.construct p)) {p0 p1 p2 p3 : PinId}
    {inv : Bool} (hd : decode s.cmd = .ok (.construct p0 p1 p2 p3 inv)) :
    (microConstruct p0 p1 p2 p3 inv (s.goto (.construct p))).InvAt
      (microConstruct p0 p1 p2 p3 inv (s.goto (.construct p))).pos := by
  obtain ⟨hc, q0, q1, q2, q3, inv', hd', hu⟩ := h.stands
  obtain ⟨rfl, rfl, rfl, rfl, rfl⟩ : q0 = p0 ∧ q1 = p1 ∧ q2 = p2 ∧ q3 = p3 ∧ inv' = inv := by
    simpa [hd, eq_comm] using hd'
  have hs : s.cfgSet = false := by
    by_contra hs
    obtain ⟨hc', -⟩ := h.config (by simpa using hs)
    exact absurd (hc.symm.trans hc') (by decide)
  have hstands := fun hp => stands_microConstruct h hp hc hd hu
  obtain ⟨hdata, hmode⟩ := inRange_microConstruct h hu
  cases p with
  | setConstructed =>
    have hpins : (fun i => (s.ch.get i).pin) = Lanes.get ⟨q0, q1, q2, q3⟩ := by
      funext i; rw [hu.records i rfl, channelOf_pin]
    exact { h with
      pinsValid := fun _ => by
        show pinsOk s.cfg (.ofFn fun i => (s.ch.get i).pin) = true
        rw [hpins, Lanes.ofFn_get]; exact hu.checked
      records := fun _ i => by
        show channelOf s.cfg (s.ch.get i).pin = s.ch.get i
        rw [hu.records i rfl, channelOf_pin]
      outputs := fun _ i => hu.modes i rfl
      rests := fun _ i _ => (hu.latches i rfl).trans (congrArg idleLevel (hu.polarity rfl).symm)
      config := fun hs => absurd (hc.symm.trans (h.config hs).1) (by decide)
      stands := trivial }
  | clockStart =>
    exact invAt_of_unconstructed h.cfgOk hdata hmode (fun _ => Timer.configure_cnt_lt)
      (fun _ => Timer.configure_pre_lt) hc hs (hstands nofun)
  | clearCfgSet =>
    exact invAt_of_unconstructed h.cfgOk hdata hmode h.cntBound h.preBound hc rfl
      (hstands nofun)
  | bind | polarity | drive | mode =>
    exact invAt_of_unconstructed h.cfgOk hdata hmode h.cntBound h.preBound hc hs
      (hstands nofun)

/-! ## WRITE -/

/-- Where a slot's last pin write leads is taken, and stays inside the critical section (42_write.md R139). -/
theorem afterSlot_taken (c : Config) (pmode : BitVec 2) (stopb : BitVec 6) (slot : Slot) :
    (afterSlot pmode slot).taken c pmode stopb = true ∧ (afterSlot pmode slot).critical = true := by
  cases slot with
  | start | par | stop => exact ⟨rfl, rfl⟩
  | bit k =>
    simp only [afterSlot]
    split_ifs with _ hp
    · exact ⟨rfl, rfl⟩
    · exact ⟨hp, rfl⟩
    · exact ⟨rfl, rfl⟩

/-- After a slot other than the stop bit no line need rest. -/
theorem afterSlot_lineRests {slot : Slot} (h : slot ≠ .stop) (pmode : BitVec 2) (i : Fin 4) :
    (Pos.write (afterSlot pmode slot)).lineRests i = false := by
  cases slot with
  | stop => contradiction
  | start | par => rfl
  | bit k => simp only [afterSlot]; split_ifs <;> rfl

/-- The lines that rest after a pin write of a frame are those that rested, less the channel just written,
until the stop bits bring them back one by one (10_state.md R31c, 42_write.md R130). -/
theorem rests_drvSlot {slot : Slot} {i : Fin 4} (h : s.InvAt (.write (.drv slot i))) {q : WritePos}
    (hq : (∃ j : Fin 4, j.val = i.val + 1 ∧ q = .drv slot j) ∨ (i.val = 3 ∧ q = afterSlot s.pmode slot))
    (k : Fin 4) (hk : (Pos.write q).lineRests k = true) : (s.drvSlot slot i).txd k = idleLevel s.inv := by
  obtain ⟨hc, -⟩ := h.stands
  obtain ⟨px, py, hpl⟩ := h.placed hc
  have hrest := h.rests hc k
  rw [State.drvSlot_eq, hpl.txd_pinWrite (PortFile.wf_of_inRange h.dataOk)]
  rcases hq with ⟨j, hj, rfl⟩ | ⟨hi, rfl⟩
  · cases slot with
    | start =>
      simp only [Pos.lineRests, decide_eq_true_eq, Fin.ext_iff] at hk hrest ⊢
      rw [if_neg (by omega)]
      exact hrest (by omega)
    | bit | par => cases hk
    | stop =>
      simp only [Pos.lineRests, decide_eq_true_eq, Fin.ext_iff] at hk hrest ⊢
      split
      · rfl
      · exact hrest (by omega)
  · by_cases hslot : slot = .stop
    · subst hslot
      simp only [Pos.lineRests, decide_eq_true_eq, Fin.ext_iff] at hrest ⊢
      split
      · rfl
      · exact hrest (by omega)
    · rw [afterSlot_lineRests hslot] at hk; cases hk

/-- A pin write of a frame keeps the invariant where the frame goes on. -/
theorem invAt_drvSlot {slot : Slot} {i : Fin 4} (h : s.InvAt (.write (.drv slot i))) {q : WritePos}
    (hq : (∃ j : Fin 4, j.val = i.val + 1 ∧ q = .drv slot j) ∨ (i.val = 3 ∧ q = afterSlot s.pmode slot)) :
    (s.drvSlot slot i).InvAt (.write q) := by
  have hrests := rests_drvSlot h hq
  obtain ⟨hc, hs, ht, hcr⟩ := h.stands
  obtain ⟨px, py, hpl⟩ := h.placed hc
  have hnext : q.taken s.cfg s.pmode s.stopb = true := by
    rcases hq with ⟨j, -, rfl⟩ | ⟨-, rfl⟩
    · cases slot <;> exact ht
    · exact (afterSlot_taken s.cfg s.pmode s.stopb slot).1
  rw [State.drvSlot_eq] at hrests ⊢
  exact { h with
    dataOk := hpl.inRange_pinWrite h.dataOk i _
    rests := fun _ => hrests
    stands := ⟨hc, hs, hnext, fun _ => hcr rfl⟩ }

/-- A pin write does not read `POS`. -/
theorem State.goto_drvSlot (s : State) (p : Pos) (slot : Slot) (i : Fin 4) :
    (s.goto p).drvSlot slot i = (s.drvSlot slot i).goto p := by
  rw [State.drvSlot_eq, State.drvSlot_eq]; rfl

/-- A micro-step of WRITE that leads to `q` and changes nothing. -/
theorem invAt_write_goto {p q : WritePos} (h : s.InvAt (.write p)) (ht : q.taken s.cfg s.pmode s.stopb = true)
    (hcr : q.critical = true → s.ie = false)
    (hr : ∀ i, (Pos.write q).lineRests i = true → (Pos.write p).lineRests i = true) : s.InvAt (.write q) := by
  obtain ⟨hc, hs, -⟩ := h.stands
  exact { h with rests := fun hc i hi => h.rests hc i (hr i hi), stands := ⟨hc, hs, ht, hcr⟩ }

theorem invAt_microWrite {p : WritePos} (h : s.InvAt (.write p)) (d0 d1 d2 d3 : Byte) :
    (microWrite d0 d1 d2 d3 (s.goto (.write p))).InvAt (microWrite d0 d1 d2 d3 (s.goto (.write p))).pos := by
  obtain ⟨hc, hs, ht, hcr⟩ := h.stands
  cases p with
  | latch i =>
    rcases nextLane_cases i with ⟨k, hk, -⟩ | ⟨hk, -⟩ <;> simp only [microWrite, State.goto_pos, hk]
    · exact { h with stands := ⟨hc, hs, rfl, nofun⟩ }
    · unfold afterLatch
      split
      · next hp => exact { h with stands := ⟨hc, hs, hp, nofun⟩ }
      · exact { h with stands := ⟨hc, hs, rfl, nofun⟩ }
  | count i =>
    rcases nextLane_cases i with ⟨k, hk, -⟩ | ⟨hk, -⟩ <;> simp only [microWrite, State.goto_pos, hk]
    · exact { h with stands := ⟨hc, hs, ht, nofun⟩ }
    · exact { h with stands := ⟨hc, hs, rfl, nofun⟩ }
  | enter =>
    simp only [microWrite, State.goto_pos, State.goto_cfg]
    unfold afterEnter
    split
    · exact { h with stands := ⟨hc, hs, rfl, fun _ => rfl⟩ }
    · next n hn => exact { h with stands := ⟨hc, hs, by simp [WritePos.taken, hn], fun _ => rfl⟩ }
  | pre left =>
    refine invAt_awaitTick rfl (h.goto _) ((?_ : s.InvAt _).goto _)
    cases left with
    | zero => exact invAt_write_goto h rfl (fun _ => hcr rfl) fun _ _ => rfl
    | succ n =>
      refine invAt_write_goto h ?_ (fun _ => hcr rfl) fun _ _ => rfl
      simp only [WritePos.taken, decide_eq_true_eq] at ht ⊢
      omega
  | await slot =>
    refine invAt_awaitTick rfl (h.goto _) ((?_ : s.InvAt _).goto _)
    cases slot with
    | start => exact invAt_write_goto h rfl (fun _ => hcr rfl) fun _ _ => rfl
    | bit | par => exact invAt_write_goto h ht (fun _ => hcr rfl) nofun
    | stop => exact invAt_write_goto h rfl (fun _ => hcr rfl) fun i hi => by simp [Pos.lineRests] at hi
  | drv slot i =>
    rcases nextLane_cases i with ⟨k, hk, hki⟩ | ⟨hk, hi⟩ <;>
      simp only [microWrite, State.goto_pos, hk, State.goto_drvSlot]
    · exact ((invAt_drvSlot h (.inl ⟨k, hki, rfl⟩)).goto _).goto _
    · exact ((invAt_drvSlot h (.inr ⟨hi, rfl⟩)).goto _).goto _
  | t1 =>
    refine invAt_awaitTick rfl (h.goto _) ((?_ : s.InvAt _).goto _)
    by_cases h2 : twoStops s.stopb = true
    · rw [State.goto_stopb, if_pos h2]
      exact invAt_write_goto h h2 (fun _ => hcr rfl) fun _ _ => rfl
    · rw [State.goto_stopb, if_neg h2]
      exact invAt_write_goto h rfl (fun _ => hcr rfl) fun _ _ => rfl
  | t2 =>
    refine invAt_awaitTick rfl (h.goto _) ((?_ : s.InvAt _).goto _)
    exact invAt_write_goto h rfl (fun _ => hcr rfl) fun _ _ => rfl
  | leave => exact { h with stands := trivial }

end Sys2Proof.Machine
end

section
/-! PROOFS. The invariant of 10_state.md R31: reset gives it, and every turn of every agent keeps it. -/

namespace Sys2Proof.Machine

variable {s : State}

/-! ## SEQ -/

/-- The micro-steps of a command's body keep the invariant at SEQ's position. -/
theorem invAt_micro_body {i : Instr} (h : s.InvAt s.pos) (hd : decode s.cmd = .ok i) (hadm : s.pos ≠ .adm)
    (hdone : s.pos ≠ .done) : (micro i s).InvAt (micro i s).pos := by
  cases hf : s.pos.fits i with
  | false => rw [micro_of_not_fits hf]; exact h
  | true =>
    generalize hp : s.pos = p at *
    rw [← State.goto_eq_self hp]
    cases p with
    | idle => cases i <;> cases hf
    | adm => contradiction
    | done => contradiction
    | construct p => cases i <;> cases hf; exact invAt_microConstruct h hd
    | begin p => cases i <;> cases hf; exact invAt_microBegin h _ (parity_of_decode hd) _
    | write p => cases i <;> cases hf; exact invAt_microWrite h _ _ _ _
    | destroy p => cases i <;> cases hf; exact invAt_microDestroy h
    | clkConfigure => cases i <;> cases hf; exact invAt_microClkConfigure h _ _
    | clkAwait =>
      cases i <;> cases hf
      exact invAt_awaitTick (p := .clkAwait) (q := .done) rfl (h.goto _) { h with }
    | clkStop => cases i <;> cases hf; exact invAt_microClkStop h

/-- Every micro-step of every command keeps the invariant. -/
theorem State.Inv.micro (h : s.Inv) {i : Instr} (he : s.seqEnabled = true) (hd : decode s.cmd = .ok i) :
    (micro i s).Inv := by
  obtain ⟨hb, hf, hidle, -⟩ := (State.seqEnabled_iff s).1 he
  have hat := h.at
  by_cases hadm : s.pos = .adm
  · rw [micro_adm hadm]; exact h.admitOrFault hadm hd hf
  by_cases hdone : s.pos = .done
  · rw [micro_done hdone]
    rw [hdone] at hat
    exact (State.inv_iff _).2 ⟨by simp, fun hne => absurd hf hne, { hat with }⟩
  · obtain ⟨hb', hf', -, hpos, -⟩ := micro_body i s hidle hadm hdone
    refine (State.inv_iff _).2 ⟨?_, fun hne => absurd (hf'.trans hf) hne, invAt_micro_body hat hd hadm hdone⟩
    simp [hb', hb, hpos]

theorem State.Inv.microTurn (h : s.Inv) : s.microTurn.Inv := by
  rcases s.microTurn_cases with ⟨_, he⟩ | ⟨he, i, hd, h'⟩ | ⟨_, _, he⟩
  · rw [he]; exact h
  · rw [h']; exact h.micro he hd
  · rw [he]
    unfold State.illegalCommand
    split
    · next hp => exact h.raiseFault hp _
    · exact h

/-! ## HOST, TMR, ENV and the platform -/

theorem State.Inv.hostTurn (h : s.Inv) : s.hostTurn.Inv := by
  rcases s.hostTurn_cases with he | ⟨hb, hf, hcases⟩
  · rw [he]; exact h
  have hidle : s.pos = .idle := by
    by_contra hne
    exact absurd (hb.symm.trans (h.busyPos.2 hne)) (by decide)
  have hat : s.InvAt .idle := hidle ▸ h.at
  rcases hcases with ⟨w, rest, he⟩ | ⟨b, rest, he⟩ <;> rw [he]
  · exact (State.inv_iff _).2 ⟨by simp, fun hne => absurd hf hne, { hat with }⟩
  · refine (State.inv_iff _).2 ⟨h.busyPos, h.faultPos, ?_⟩
    show State.InvAt _ s.pos
    rw [hidle]
    exact { hat with }

theorem State.Inv.tmrClk (h : s.Inv) : s.tmrClk.Inv := by
  unfold State.tmrClk
  split
  · exact h
  · obtain ⟨hrun, hdiv, hcmp, -⟩ := s.timer.clk_keeps
    exact { h with
      cntBound := fun hr hc => Timer.cnt_clk_lt h.cntBound (hrun ▸ hr) (hcmp ▸ hc)
      preBound := fun hr hd => Timer.pre_clk_lt h.preBound (hrun ▸ hr) (hdiv ▸ hd) }

theorem State.Inv.tmrMatch (h : s.Inv) : s.tmrMatch.Inv := by
  unfold State.tmrMatch
  split
  · exact { h with
      cntBound := fun _ => BitVec.toNat_pos_of_ne_zero
      preBound := fun _ => BitVec.toNat_pos_of_ne_zero }
  · exact h

/-- A change of a port bit that is not the mask's leaves what the mask shows of a register alone. -/
theorem PortFile.and_mask_drive {f : PortFile} (hf : f.wf = true) {port bit p m : Nat}
    (h : ¬(p = port ∧ m.testBit bit = true)) (v : Bool) :
    (f.drive port (2 ^ bit) v).read p &&& m = f.read p &&& m := by
  refine Nat.eq_of_testBit_eq fun k => ?_
  rw [Nat.testBit_and, Nat.testBit_and, PortFile.testBit_drive_two_pow hf]
  split
  · next hk =>
    obtain ⟨rfl, rfl⟩ := hk
    have hm : m.testBit bit = false := by simpa using h
    simp [hm]
  · rfl

/-- A change of a port data bit that is not the channel's leaves its latch alone. -/
theorem State.txd_drive_foreign {i : Fin 4} {port bit : Nat} (hf : s.portData.wf = true)
    (h : ¬s.ownsBit i port bit) (v : Bool) :
    State.txd { s with portData := s.portData.drive port (2 ^ bit) v } i = s.txd i := by
  unfold State.txd
  rw [PortFile.and_mask_drive hf h]

/-- A change of a port mode bit that is not the channel's leaves its output enable alone. -/
theorem State.oe_drive_foreign {i : Fin 4} {port bit : Nat} (hf : s.portMode.wf = true)
    (h : ¬s.ownsBit i port bit) (v : Bool) :
    State.oe { s with portMode := s.portMode.drive port (2 ^ bit) v } i = s.oe i := by
  unfold State.oe
  rw [PortFile.and_mask_drive hf h]

/-- No bound channel owns a bit that is no channel bit (20_memory.md R59). -/
theorem State.not_ownsBit_of_hasChannel {port bit : Nat} (h : s.isChannelBit port bit = false) {i : Fin 4}
    (hi : s.hasChannel i) : ¬s.ownsBit i port bit := fun ho =>
  absurd (h.symm.trans ((State.isChannelBit_iff port bit).2 ⟨i, hi, ho⟩)) (by decide)

theorem ConstructPos.recordWritten_of_latchDriven {p : ConstructPos} {i : Fin 4}
    (h : p.latchDriven i = true) : p.recordWritten i = true := by
  cases p with
  | bind => cases h
  | polarity | drive | mode | clockStart | clearCfgSet | setConstructed => rfl

theorem ConstructPos.recordWritten_of_modeSwitched {p : ConstructPos} {i : Fin 4}
    (h : p.modeSwitched i = true) : p.recordWritten i = true := by
  cases p with
  | bind => cases h
  | polarity | drive | mode | clockStart | clearCfgSet | setConstructed => rfl

/-- A port change of ENV or the platform keeps the invariant: it reaches no bound channel's bit. -/
theorem State.Inv.portAct (h : s.Inv) {t : State} {a : PortAct} (ht : s.portAct a = .next t) : t.Inv := by
  obtain ⟨hport, hbit, hch, ⟨-, rfl⟩ | ⟨-, rfl⟩⟩ := State.portAct_cases ht
  · have htxd := fun i (hi : s.hasChannel i) => State.txd_drive_foreign
      (PortFile.wf_of_inRange h.dataOk) (State.not_ownsBit_of_hasChannel hch hi) a.value
    exact { h with
      dataOk := PortFile.inRange_drive h.dataOk hport hbit _
      rests := fun hc i hi => (htxd i (.inl hc)).trans (h.rests hc i hi)
      constructing := fun p hp => by
        obtain ⟨hc, p0, p1, p2, p3, inv, hd, h1, h2, h3, h4, h5⟩ := h.constructing p hp
        exact ⟨hc, p0, p1, p2, p3, inv, hd, h1, h2, h3, fun i hi => (htxd i (.inr ⟨p, hp,
          ConstructPos.recordWritten_of_latchDriven hi⟩)).trans (h4 i hi), h5⟩ }
  · have hoe := fun i (hi : s.hasChannel i) => State.oe_drive_foreign
      (PortFile.wf_of_inRange h.modeOk) (State.not_ownsBit_of_hasChannel hch hi) a.value
    exact { h with
      modeOk := PortFile.inRange_drive h.modeOk hport hbit _
      outputs := fun hc i => (hoe i (.inl hc)).trans (h.outputs hc i)
      constructing := fun p hp => by
        obtain ⟨hc, p0, p1, p2, p3, inv, hd, h1, h2, h3, h4, h5⟩ := h.constructing p hp
        exact ⟨hc, p0, p1, p2, p3, inv, hd, h1, h2, h3, h4, fun i hi => (hoe i (.inr ⟨p, hp,
          ConstructPos.recordWritten_of_modeSwitched hi⟩)).trans (h5 i hi)⟩ }

/-! ## Reset -/

/-- The block after reset meets the invariant on every allowed platform (10_state.md R30, R31). -/
theorem State.afterReset_inv {c : Config} (hc : c.ok = true) (host : List HostAct) (sched : List Turn) :
    (State.afterReset c host sched).Inv :=
  (State.inv_iff _).2 ⟨⟨nofun, absurd rfl⟩, absurd rfl,
    invAt_of_unconstructed hc rfl rfl nofun nofun rfl rfl trivial⟩

theorem State.Inv.unscheduled (h : s.Inv) : s.unscheduled.Inv := { h with }

/-- Settles O3: of a block that is not constructed and runs no command the invariant asks for allowed
parameters only. -/
theorem resetStateSatisfiesTheInvariant : Obligations.ResetStateSatisfiesTheInvariant := by
  unfold Obligations.ResetStateSatisfiesTheInvariant
  exact ⟨State.afterReset_inv (by decide) [] [], fun c host sched hc => State.afterReset_inv hc host sched⟩

/-- Settles O4: each agent's turn keeps the invariant, SEQ's as a number of its micro-turns. -/
theorem stepKeepsTheInvariant : Obligations.StepKeepsTheInvariant := by
  unfold Obligations.StepKeepsTheInvariant
  intro s t h ht
  cases step_moves ht with
  | seq hu n =>
    exact State.microTurn_iterate_induct (P := State.Inv) (fun _ hu => hu.microTurn) n h.unscheduled
  | host => exact h.unscheduled.hostTurn
  | clk => exact h.unscheduled.tmrClk
  | matchEvent => exact h.unscheduled.tmrMatch
  | port a hu t ha => exact h.unscheduled.portAct ha
  | masked => exact h.unscheduled
  | rst => exact State.afterReset_inv h.cfgOk _ _

end Sys2Proof.Machine
end

section
/-! PROOFS. Elements that hold no value (10_state.md R10): states that agree on the others are treated alike
by the shared operations and by admission. -/

namespace Sys2Proof.Machine

variable {s t : State}

/-! ## Outcomes alike -/

theorem SameChange.trans {α : Type} {f : State → α} {s t s' t' s'' t'' : State}
    (h : SameChange f s t s' t') (h' : SameChange f s' t' s'' t'') : SameChange f s t s'' t'' := by
  rcases h' with h' | ⟨hs', ht'⟩
  · exact .inl h'
  · rcases h with h | ⟨hs, ht⟩
    · exact .inl (ht'.trans (h.trans hs'.symm))
    · exact .inr ⟨hs'.trans hs, ht'.trans ht⟩

/-- Steps alike in a row are alike. -/
theorem SameOutcome.trans {s' t' s'' t'' : State} (h : SameOutcome s t (.next s') (.next t'))
    (h' : SameOutcome s' t' (.next s'') (.next t'')) : SameOutcome s t (.next s'') (.next t'') := by
  obtain ⟨-, hres, hport⟩ := h
  obtain ⟨hsame, hres', hport'⟩ := h'
  exact ⟨hsame, hres.trans hres', fun p b => (hport p b).trans (hport' p b)⟩

/-- A step that writes neither `RES` nor a port data bit. -/
theorem State.SameValues.outcome {s' t' : State} (h : s'.SameValues t')
    (hs : s'.res = s.res ∧ s'.portData = s.portData := by exact ⟨rfl, rfl⟩)
    (ht : t'.res = t.res ∧ t'.portData = t.portData := by exact ⟨rfl, rfl⟩) :
    SameOutcome s t (.next s') (.next t') :=
  ⟨h, .inr ⟨hs.1, ht.1⟩, fun p b => .inr ⟨by simp only [hs.2], by simp only [ht.2]⟩⟩

/-- The schedule is not what a step is compared by. -/
theorem SameOutcome.of_unscheduled {a b : Host.Outcome State Fault Refusal}
    (h : SameOutcome s.unscheduled t.unscheduled a b) : SameOutcome s t a b := by
  cases a <;> cases b <;> exact h

/-- SEQ has a step in both states or in neither (10_state.md R19). -/
theorem State.SameValues.seqEnabled_eq (h : s.SameValues t) : t.seqEnabled = s.seqEnabled := by
  simp only [State.seqEnabled, h.busy, h.fault, h.pos, h.ocf]

theorem State.SameValues.hostEnabled_eq (h : s.SameValues t) : t.hostEnabled = s.hostEnabled := by
  simp only [State.hostEnabled, h.busy, h.fault]

/-! ## The clock -/

/-- A stopped timer is not read but for its flag (40_clock.md R84, R85). -/
theorem State.SameValues.timer_alike (h : s.SameValues t) :
    (s.timer.run = false ∧ t.timer.run = false) ∨ t.timer = s.timer := by
  cases hr : s.timer.run with
  | false => exact .inl ⟨rfl, h.run.trans hr⟩
  | true => exact .inr (h.timer hr)

theorem State.SameValues.canMatch_eq (h : s.SameValues t) : t.timer.canMatch = s.timer.canMatch := by
  rcases h.timer_alike with ⟨hs, ht⟩ | ht
  · simp [Timer.canMatch, hs, ht]
  · rw [ht]

theorem State.SameValues.clkMatches_eq (h : s.SameValues t) : t.timer.clkMatches = s.timer.clkMatches := by
  rcases h.timer_alike with ⟨hs, ht⟩ | ht
  · simp [Timer.clkMatches, Timer.clkTicks, hs, ht]
  · rw [ht]

/-- The slot law reads `CMD` only while a command runs (20_memory.md R52). -/
theorem State.SameValues.slotOpen_eq (h : s.SameValues t) : t.slotOpen = s.slotOpen := by
  unfold State.slotOpen
  rw [h.busy, h.fault, h.pos]
  cases hb : s.busy with
  | false => rfl
  | true => rw [h.cmd hb]

theorem State.SameValues.matchEnabled_eq (h : s.SameValues t) : t.matchEnabled = s.matchEnabled := by
  simp only [State.matchEnabled, h.canMatch_eq, h.slotOpen_eq]

theorem State.SameValues.nextTurn_eq (h : s.SameValues t) : t.nextTurn = s.nextTurn := by
  simp only [State.nextTurn, State.defaultTurn, h.sched, h.seqEnabled_eq, h.hostEnabled_eq, h.host, h.busy,
    h.fault, h.matchEnabled_eq]

theorem State.SameValues.tmrClk (h : s.SameValues t) : s.tmrClk.SameValues t.tmrClk := by
  unfold State.tmrClk
  rw [h.clkMatches_eq, h.slotOpen_eq]
  split
  · exact h
  · rcases h.timer_alike with ⟨hs, ht⟩ | ht
    · have hsc : s.timer.clk = s.timer := by simp [Timer.clk, hs]
      have htc : t.timer.clk = t.timer := by simp [Timer.clk, ht]
      rw [hsc, htc]; exact h
    · have hc : t.timer.clk = s.timer.clk := by rw [ht]
      exact { h with
        run := congrArg Timer.run hc, ocf := congrArg Timer.ocf hc, timer := fun _ => hc }

theorem State.SameValues.tmrMatch (h : s.SameValues t) : s.tmrMatch.SameValues t.tmrMatch := by
  unfold State.tmrMatch
  rw [h.matchEnabled_eq]
  split
  · exact { h with ocf := rfl, timer := fun hr => congrArg Timer.matchEvent (h.timer hr) }
  · exact h

/-! ## HOST, ENV and the platform -/

/-- Acceptance writes `CMD`, and no element gets a value by it. -/
theorem State.SameValues.hostTurn (hs : s.Inv) (h : s.SameValues t) : s.hostTurn.SameValues t.hostTurn := by
  unfold State.hostTurn
  rw [h.hostEnabled_eq, h.host]
  split
  · next he =>
    have hidle : s.pos = .idle := by
      by_contra hne
      simp [State.hostEnabled, hs.busyPos.2 hne] at he
    have h' : (s.goto .idle).SameValues (t.goto .idle) := by
      rwa [State.goto_eq_self hidle, State.goto_eq_self (h.pos.trans hidle)]
    rcases hh : s.host with _ | ⟨_ | b, rest⟩
    · exact h
    · exact { h' with busy := rfl, cmd := fun _ => rfl, pos := rfl, host := rfl }
    · exact { h with ie := rfl, host := rfl }
  · exact h

theorem State.SameValues.hasChannel_iff (h : s.SameValues t) (i : Fin 4) :
    t.hasChannel i ↔ s.hasChannel i := by
  simp only [State.hasChannel, h.constructed, h.pos]

/-- The bound channels own the same bits. -/
theorem State.SameValues.isChannelBit_eq (h : s.SameValues t) (port bit : Nat) :
    t.isChannelBit port bit = s.isChannelBit port bit := by
  rw [Bool.eq_iff_iff, State.isChannelBit_iff, State.isChannelBit_iff]
  refine exists_congr fun i => ?_
  rw [h.hasChannel_iff]
  refine and_congr_right fun hi => ?_
  simp only [State.ownsBit, h.ch i ((State.bound_iff i).2 hi)]

/-- A port change of ENV or the platform writes the same bit in both states, and no latch that is driven. -/
theorem State.SameValues.portAct (hs : s.Inv) (ht : t.Inv) (h : s.SameValues t) (a : PortAct) :
    SameOutcome s t (s.portAct a) (t.portAct a) := by
  unfold State.portAct
  rw [h.cfg, h.isChannelBit_eq]
  split
  · split
    · exact rfl
    · next hch =>
      have hch : s.isChannelBit a.port a.bit = false := by simpa using hch
      cases a.reg with
      | data =>
        have hws := PortFile.wf_of_inRange hs.dataOk
        have hwt := PortFile.wf_of_inRange ht.dataOk
        refine ⟨{ h with cfg := rfl, latch := fun i hi => ?_ }, .inr ⟨rfl, rfl⟩, fun port bit => ?_⟩
        · have hi' := State.hasChannel_of_hasLatch i hi
          have hns := State.not_ownsBit_of_hasChannel hch hi'
          have hnt : ¬t.ownsBit i a.port a.bit := State.not_ownsBit_of_hasChannel
            (by rw [h.isChannelBit_eq, hch]) ((h.hasChannel_iff i).2 hi')
          exact (State.txd_drive_foreign hwt hnt _).trans
            ((h.latch i hi).trans (State.txd_drive_foreign hws hns _).symm)
        · simp only [SameChange, PortFile.testBit_drive_two_pow hws, PortFile.testBit_drive_two_pow hwt]
          split
          · exact .inl rfl
          · exact .inr ⟨rfl, rfl⟩
      | mode =>
        exact State.SameValues.outcome { h with cfg := rfl, portMode := by rw [h.portMode] }
  · exact rfl

end Sys2Proof.Machine
end

section
/-! PROOFS. Elements that hold no value (10_state.md R10): no micro-step of a command reads one. -/

namespace Sys2Proof.Machine

variable {s t : State}

/-! ## The shared operations -/

/-- States that stand at `p` agree on the values that there are at `p`. -/
theorem State.SameValues.at {p : Pos} (h : s.SameValues t) (hp : s.pos = p) :
    (s.goto p).SameValues (t.goto p) := by
  rwa [State.goto_eq_self hp, State.goto_eq_self (h.pos.trans hp)]

/-- No change is a change alike. -/
theorem State.SameValues.refl_outcome (h : s.SameValues t) : SameOutcome s t (.next s) (.next t) :=
  h.outcome

/-- An `await tick` is taken alike (40_clock.md R82). -/
theorem State.SameValues.awaitTick (h : s.SameValues t) {q : Pos} (hq : (s.goto q).SameValues (t.goto q)) :
    SameOutcome s t (.next (s.awaitTick q)) (.next (t.awaitTick q)) := by
  unfold State.awaitTick
  rw [h.ocf]
  split
  · exact State.SameValues.outcome
      { hq with ocf := rfl, timer := fun hr => by rw [h.timer hr] }
  · exact h.refl_outcome

/-- `ClockStart` starts the timers alike (40_clock.md R90). -/
theorem State.clockStart_timer_congr (h : t.cfg = s.cfg) : t.clockStart.timer = s.clockStart.timer := by
  rw [State.clockStart_timer, State.clockStart_timer, h]

/-- Channels at the same places. -/
theorem State.Placed.congr {px py : Fin 4 → Nat} (h : s.Placed px py) (hch : ∀ i, t.ch.get i = s.ch.get i)
    (hcfg : t.cfg = s.cfg) : t.Placed px py where
  port i := by rw [hch, h.port]
  mask i := by rw [hch, h.mask]
  portLt i := by rw [hcfg]; exact h.portLt i
  bitLt i := by rw [hcfg]; exact h.bitLt i
  apart := h.apart

/-- The same level written to the same pin: the latches that agreed still agree, and so does the one
written. -/
theorem State.Placed.txd_pinWrite_alike {px py : Fin 4 → Nat} (h : s.Placed px py) (h' : t.Placed px py)
    (hs : s.portData.wf = true) (ht : t.portData.wf = true) {i j : Fin 4} (b : Level)
    (hj : i ≠ j → t.txd j = s.txd j) : (t.pinWrite i b).txd j = (s.pinWrite i b).txd j := by
  rw [h.txd_pinWrite hs, h'.txd_pinWrite ht]
  split
  · rfl
  · next hij => exact hj hij

/-- The same level written to the same pin changes every port data bit alike (20_memory.md R42). -/
theorem sameChange_pinWrite (hs : s.portData.wf = true) (ht : t.portData.wf = true) {i : Fin 4}
    (hch : t.ch.get i = s.ch.get i) (b : Level) (port bit : Nat) :
    SameChange (fun u => (u.portData.read port).testBit bit) s t (s.pinWrite i b) (t.pinWrite i b) := by
  simp only [SameChange, State.pinWrite_portData, PortFile.testBit_drive hs, PortFile.testBit_drive ht, hch]
  split
  · exact .inl rfl
  · exact .inr ⟨rfl, rfl⟩

/-! ## The guards inside CONSTRUCT -/

theorem recordWritten_of_bound {i : Fin 4} {p : ConstructPos} (h : s.bound i = true)
    (hc : s.constructed = false) (hp : s.pos = .construct p) : p.recordWritten i = true := by
  rcases (State.bound_iff i).1 h with hc' | ⟨q, hq, hr⟩
  · exact absurd (hc.symm.trans hc') (by decide)
  · rw [hp] at hq; cases hq; exact hr

theorem bound_of_recordWritten {i : Fin 4} {p : ConstructPos} (hp : s.pos = .construct p)
    (h : p.recordWritten i = true) : s.bound i = true := (State.bound_iff i).2 (.inr ⟨p, hp, h⟩)

theorem latchDriven_of_hasLatch {i : Fin 4} {p : ConstructPos} (h : s.hasLatch i = true)
    (hc : s.constructed = false) (hp : s.pos = .construct p) : p.latchDriven i = true := by
  simpa only [State.hasLatch, hc, hp, Bool.false_or] using h

theorem hasLatch_of_latchDriven {i : Fin 4} {p : ConstructPos} (hp : s.pos = .construct p)
    (h : p.latchDriven i = true) : s.hasLatch i = true := by
  simp only [State.hasLatch, hp, h, Bool.or_true]

/-! ## Admission and completion -/

theorem State.SameValues.admission_eq (h : s.SameValues t) (i : Instr) : admission t i = admission s i := by
  cases i <;> simp only [admission, needConstructed, h.constructed, h.cfgSet, h.cfg]

/-- Where an admission leads no element has got a value yet. -/
theorem State.SameValues.firstPos (h : (s.goto .adm).SameValues (t.goto .adm)) (i : Instr) :
    (s.goto (firstPos i)).SameValues (t.goto (firstPos i)) := by
  cases i with
  | construct =>
    refine { h with pos := rfl, ch := fun j hj => h.ch j ?_ }
    cases hc : s.constructed with
    | true => exact Bool.or_eq_true_iff.2 (.inl hc)
    | false => exact absurd (recordWritten_of_bound hj hc rfl) (by simp [ConstructPos.recordWritten])
  | begin | write | read | available | flush | valid | destroy | clkConfigure | clkAwait | clkStop =>
    exact { h with pos := rfl, txb := nofun, q := nofun }

theorem State.SameValues.admitOrFault (h : s.SameValues t) (hp : s.pos = .adm) (i : Instr) :
    SameOutcome s t (.next (s.admitOrFault i (Machine.firstPos i)))
      (.next (t.admitOrFault i (Machine.firstPos i))) := by
  unfold State.admitOrFault
  rw [h.admission_eq]
  cases admission s i with
  | none => exact ((h.at hp).firstPos i).outcome
  | some c =>
    simp only [State.raiseFault, h.fault]
    split
    · exact State.SameValues.outcome { h with fault := rfl }
    · exact h.refl_outcome

/-- A completion takes the values inside the command away, and writes the same result or none. -/
theorem State.SameValues.completion (h : s.SameValues t) (hp : s.pos = .done) (i : Instr) :
    SameOutcome s t (.next (s.completeWith (resultOf s.res i)))
      (.next (t.completeWith (resultOf t.res i))) := by
  refine ⟨{ h.at hp with busy := rfl, cmd := nofun, pos := rfl }, ?_, fun _ _ => .inr ⟨rfl, rfl⟩⟩
  cases i with
  | write | read | available | valid => exact .inl rfl
  | construct | begin | flush | destroy | clkConfigure | clkAwait | clkStop => exact .inr ⟨rfl, rfl⟩

/-! ## The bodies of BEGIN, DESTROY, CLK_CONFIGURE, CLK_STOP -/

theorem same_microBegin {p : BeginPos} (h : (s.goto (.begin p)).SameValues (t.goto (.begin p)))
    (rate : BitVec 32) (par : BitVec 2) (stop : BitVec 6) :
    SameOutcome (s.goto (.begin p)) (t.goto (.begin p))
      (.next (microBegin rate par stop (s.goto (.begin p))))
      (.next (microBegin rate par stop (t.goto (.begin p)))) := by
  cases p with
  | storeParity =>
    exact State.SameValues.outcome { h with pos := rfl, pmode := fun _ => rfl }
  | storeStop =>
    exact State.SameValues.outcome { h with pos := rfl, stopb := fun _ => rfl }
  | setCfgSet =>
    exact State.SameValues.outcome { h with
      pos := rfl, cfgSet := rfl
      pmode := fun _ => h.pmode (Bool.or_true _), stopb := fun _ => h.stopb (Bool.or_true _) }
  | clockStart =>
    have hclk := State.clockStart_timer_congr h.cfg
    exact State.SameValues.outcome { h with
      pos := rfl, run := rfl, ocf := rfl, timer := fun _ => hclk
      pmode := fun _ => h.pmode (Bool.or_true _), stopb := fun _ => h.stopb (Bool.or_true _) }

theorem same_microDestroy {p : DestroyPos} (h : (s.goto (.destroy p)).SameValues (t.goto (.destroy p))) :
    SameOutcome (s.goto (.destroy p)) (t.goto (.destroy p))
      (.next (microDestroy (s.goto (.destroy p)))) (.next (microDestroy (t.goto (.destroy p)))) := by
  cases p with
  | stopClock =>
    exact State.SameValues.outcome { h with pos := rfl, run := rfl, timer := nofun }
  | clearCfgSet =>
    exact State.SameValues.outcome { h with pos := rfl, cfgSet := rfl, pmode := nofun, stopb := nofun }
  | clearConstructed =>
    exact State.SameValues.outcome { h with
      pos := rfl, constructed := rfl, ch := nofun, inv := nofun, latch := nofun }

theorem same_microClkConfigure (h : (s.goto .clkConfigure).SameValues (t.goto .clkConfigure))
    (div cmp : BitVec 16) :
    SameOutcome (s.goto .clkConfigure) (t.goto .clkConfigure)
      (.next (microClkConfigure div cmp (s.goto .clkConfigure)))
      (.next (microClkConfigure div cmp (t.goto .clkConfigure))) :=
  State.SameValues.outcome { h with pos := rfl, run := rfl, ocf := rfl, timer := fun _ => rfl }

theorem same_microClkStop (h : (s.goto .clkStop).SameValues (t.goto .clkStop)) :
    SameOutcome (s.goto .clkStop) (t.goto .clkStop)
      (.next (microClkStop (s.goto .clkStop))) (.next (microClkStop (t.goto .clkStop))) :=
  State.SameValues.outcome { h with pos := rfl, run := rfl, timer := nofun }

/-! ## The body of CONSTRUCT -/

theorem same_microConstruct {p : ConstructPos}
    (h : (s.goto (.construct p)).SameValues (t.goto (.construct p)))
    (hs : s.InvAt (.construct p)) (ht : t.InvAt (.construct p)) (p0 p1 p2 p3 : PinId) (inv : Bool) :
    SameOutcome (s.goto (.construct p)) (t.goto (.construct p))
      (.next (microConstruct p0 p1 p2 p3 inv (s.goto (.construct p))))
      (.next (microConstruct p0 p1 p2 p3 inv (t.goto (.construct p)))) := by
  obtain ⟨hc, q0, q1, q2, q3, inv', hd, hu⟩ := hs.stands
  cases p with
  | bind i =>
    have hch : ∀ c, ∀ j : Fin 4, j.val ≤ i.val → (t.ch.set i c).get j = (s.ch.set i c).get j := by
      intro c j hj
      rw [Lanes.get_set, Lanes.get_set]
      split
      · rfl
      · exact h.ch j (bound_of_recordWritten rfl (by simp [ConstructPos.recordWritten]; omega))
    have hcfg : t.cfg = s.cfg := h.cfg
    rcases nextLane_cases i with ⟨k, hk, hki⟩ | ⟨hk, hi⟩ <;>
      simp only [microConstruct, State.goto_pos, State.goto_cfg, hk, hcfg]
    · refine State.SameValues.outcome { h with
        pos := rfl, cfg := rfl, ch := fun j hj => hch _ j ?_, latch := fun j hj => ?_ }
      · have := recordWritten_of_bound hj hc rfl
        simp [ConstructPos.recordWritten] at this
        omega
      · cases latchDriven_of_hasLatch hj hc rfl
    · refine State.SameValues.outcome { h with
        pos := rfl, cfg := rfl, ch := fun j hj => hch _ j ?_, latch := fun j hj => ?_ }
      · omega
      · cases latchDriven_of_hasLatch hj hc rfl
  | polarity =>
    refine State.SameValues.outcome { h with
      pos := rfl, inv := fun _ => rfl, latch := fun j hj => ?_ }
    have := latchDriven_of_hasLatch hj hc rfl
    simp [ConstructPos.latchDriven] at this
  | drive i =>
    have hch : ∀ j, t.ch.get j = s.ch.get j := fun j => h.ch j (Bool.or_true _)
    have hinv : t.inv = s.inv := h.inv (Bool.or_true _)
    obtain ⟨px, py, hpl⟩ := hu.placed hs.cfgOk fun _ => rfl
    have hws := PortFile.wf_of_inRange hs.dataOk
    have hwt := PortFile.wf_of_inRange ht.dataOk
    simp only [microConstruct, State.goto_pos, State.goto_inv, hinv]
    refine ⟨{ h with pos := rfl, inv := fun _ => hinv, latch := fun j hj => ?_ }, .inr ⟨rfl, rfl⟩,
      sameChange_pinWrite hws hwt (hch i) _⟩
    have hj := latchDriven_of_hasLatch hj hc rfl
    refine hpl.txd_pinWrite_alike (hpl.congr hch h.cfg) hws hwt (idleLevel s.inv) fun hij => h.latch j ?_
    refine hasLatch_of_latchDriven rfl ?_
    simp [ConstructPos.latchDriven] at hj ⊢
    omega
  | mode i =>
    have hch : t.ch.get i = s.ch.get i := h.ch i (Bool.or_true _)
    have hmode : (t.pinMode i).portMode = (s.pinMode i).portMode := by
      rw [State.pinMode_portMode, State.pinMode_portMode, hch, show t.portMode = s.portMode from h.portMode]
    rcases nextLane_cases i with ⟨k, hk, hki⟩ | ⟨hk, hi⟩ <;>
      simp only [microConstruct, State.goto_pos, hk] <;>
      refine State.SameValues.outcome { h with
        pos := rfl, portMode := hmode, latch := fun j hj => h.latch j ?_ } <;>
      refine hasLatch_of_latchDriven rfl ?_
    · have hj := latchDriven_of_hasLatch hj hc rfl
      simp [ConstructPos.latchDriven] at hj ⊢
      omega
    · simp [ConstructPos.latchDriven]
      omega
  | clockStart =>
    have hclk := State.clockStart_timer_congr h.cfg
    exact State.SameValues.outcome { h with
      pos := rfl, run := rfl, ocf := rfl, timer := fun _ => hclk }
  | clearCfgSet =>
    exact State.SameValues.outcome { h with pos := rfl, cfgSet := rfl, pmode := nofun, stopb := nofun }
  | setConstructed =>
    exact State.SameValues.outcome { h with
      pos := rfl, constructed := rfl
      ch := fun j _ => h.ch j (Bool.or_true _)
      inv := fun _ => h.inv (Bool.or_true _)
      latch := fun j _ => h.latch j (Bool.or_true _) }

/-! ## The body of WRITE -/

/-- Inside the critical section `TXB` and `Q` are written (42_write.md R139). -/
theorem WritePos.written_of_critical {p : WritePos} (h : p.critical = true) (i : Fin 4) :
    p.txbWritten i = true ∧ p.qWritten i = true := by
  cases p with
  | latch | count | enter => cases h
  | pre | await | drv | t1 | t2 | leave => exact ⟨rfl, rfl⟩

/-- Inside the critical section no position gives an element a value that the one before did not. -/
theorem State.SameValues.write_critical {p q : WritePos}
    (h : (s.goto (.write p)).SameValues (t.goto (.write p))) (hp : p.critical = true) :
    (s.goto (.write q)).SameValues (t.goto (.write q)) := by
  have hw := WritePos.written_of_critical hp
  exact { h with
    pos := rfl
    txb := fun i _ => h.txb i (hw i).1
    q := fun i hi => h.q i (by
      simp only [State.hasQ, State.goto_pos, Bool.and_eq_true] at hi ⊢
      exact ⟨(hw i).2, hi.2⟩)
    ieSaved := fun _ => h.ieSaved hp }

/-- The level of a slot reads elements that hold a value (42_write.md R127 to R130). -/
theorem slotLevel_alike {slot : Slot} {i : Fin 4}
    (h : (s.goto (.write (.drv slot i))).SameValues (t.goto (.write (.drv slot i))))
    (hs : s.Stands (.write (.drv slot i))) : t.slotLevel slot i = s.slotLevel slot i := by
  obtain ⟨hc, hcs, htaken, -⟩ := hs
  have hinv : t.inv = s.inv := h.inv (Bool.or_eq_true_iff.2 (.inl hc))
  have hpm : t.pmode = s.pmode := h.pmode (Bool.or_eq_true_iff.2 (.inl hcs))
  have hcfg : t.cfg = s.cfg := h.cfg
  cases slot with
  | start | stop => simp only [State.slotLevel, hinv]
  | bit k => simp only [State.slotLevel, show t.txb.get i = s.txb.get i from h.txb i rfl]
  | par =>
    have hq : t.q.get i = s.q.get i := h.q i htaken
    simp only [State.slotLevel, hinv, hpm, hcfg, hq]

theorem same_microWrite {p : WritePos} (h : (s.goto (.write p)).SameValues (t.goto (.write p)))
    (hs : s.InvAt (.write p)) (ht : t.InvAt (.write p)) (d0 d1 d2 d3 : Byte) :
    SameOutcome (s.goto (.write p)) (t.goto (.write p))
      (.next (microWrite d0 d1 d2 d3 (s.goto (.write p))))
      (.next (microWrite d0 d1 d2 d3 (t.goto (.write p)))) := by
  obtain ⟨hc, hcs, htaken, -⟩ := hs.stands
  have hinv : t.inv = s.inv := h.inv (Bool.or_eq_true_iff.2 (.inl hc))
  have hpm : t.pmode = s.pmode := h.pmode (Bool.or_eq_true_iff.2 (.inl hcs))
  have hst : t.stopb = s.stopb := h.stopb (Bool.or_eq_true_iff.2 (.inl hcs))
  have hcfg : t.cfg = s.cfg := h.cfg
  cases p with
  | latch i =>
    have htxb : ∀ c, ∀ j : Fin 4, j.val ≤ i.val → (t.txb.set i c).get j = (s.txb.set i c).get j := by
      intro c j hj
      rw [Lanes.get_set, Lanes.get_set]
      split
      · rfl
      · exact h.txb j (by simp [State.hasTxb, WritePos.txbWritten]; omega)
    rcases nextLane_cases i with ⟨k, hk, hki⟩ | ⟨hk, hi⟩ <;>
      simp only [microWrite, State.goto_pos, State.goto_inv, State.goto_pmode, hk, hinv, hpm]
    · refine State.SameValues.outcome { h with
        pos := rfl, inv := fun _ => rfl, pmode := fun _ => rfl
        txb := fun j hj => htxb _ j ?_, q := nofun }
      simp [State.hasTxb, WritePos.txbWritten] at hj
      omega
    · unfold afterLatch
      cases hpar : parityEnabled s.pmode <;> refine State.SameValues.outcome { h with
        pos := rfl, inv := fun _ => rfl, pmode := fun _ => rfl
        txb := fun j _ => htxb _ j (by omega), q := fun j hj => ?_ }
      · simp [State.hasQ, hpar] at hj
      · simp [State.hasQ, WritePos.qWritten] at hj
  | count i =>
    have hpar : parityEnabled s.pmode = true := htaken
    have htxb : t.txb.get i = s.txb.get i := h.txb i rfl
    have hq : ∀ c, ∀ j : Fin 4, j.val ≤ i.val → (t.q.set i c).get j = (s.q.set i c).get j := by
      intro c j hj
      rw [Lanes.get_set, Lanes.get_set]
      split
      · rfl
      · exact h.q j (by simp [State.hasQ, WritePos.qWritten, hpar]; omega)
    rcases nextLane_cases i with ⟨k, hk, hki⟩ | ⟨hk, hi⟩ <;>
      simp only [microWrite, State.goto_pos, State.goto_txb, hk, htxb] <;>
      refine State.SameValues.outcome { h with
        pos := rfl, q := fun j hj => hq _ j ?_ }
    · simp [State.hasQ, WritePos.qWritten] at hj
      omega
    · omega
  | enter =>
    simp only [microWrite, State.goto_pos, State.goto_cfg, hcfg]
    have hie : t.ie = s.ie := h.ie
    unfold afterEnter
    split <;> exact State.SameValues.outcome { h with
      pos := rfl, cfg := hcfg, ie := rfl, ieSaved := fun _ => hie }
  | pre left => cases left <;> exact h.awaitTick (h.write_critical rfl)
  | await slot => exact h.awaitTick (h.write_critical rfl)
  | drv slot i =>
    obtain ⟨px, py, hpl⟩ := hs.placed hc
    have hws := PortFile.wf_of_inRange hs.dataOk
    have hwt := PortFile.wf_of_inRange ht.dataOk
    have hch : ∀ j, t.ch.get j = s.ch.get j := fun j => h.ch j (Bool.or_eq_true_iff.2 (.inl hc))
    have hlevel := slotLevel_alike h hs.stands
    have hnext : ∀ q : WritePos, SameOutcome (s.goto (.write (.drv slot i))) (t.goto (.write (.drv slot i)))
        (.next (((s.goto (.write (.drv slot i))).drvSlot slot i).goto (.write q)))
        (.next (((t.goto (.write (.drv slot i))).drvSlot slot i).goto (.write q))) := by
      intro q
      rw [State.goto_drvSlot, State.goto_drvSlot, State.drvSlot_eq, State.drvSlot_eq, hlevel]
      refine ⟨{ h.write_critical (q := q) rfl with latch := fun j _ => ?_ }, .inr ⟨rfl, rfl⟩,
        sameChange_pinWrite hws hwt (hch i) _⟩
      exact hpl.txd_pinWrite_alike (hpl.congr hch hcfg) hws hwt _ fun _ =>
        h.latch j (Bool.or_eq_true_iff.2 (.inl hc))
    rcases nextLane_cases i with ⟨k, hk, -⟩ | ⟨hk, -⟩ <;>
      simp only [microWrite, State.goto_pos, State.goto_pmode, hk, hpm] <;> exact hnext _
  | t1 =>
    cases h2 : twoStops s.stopb <;>
      simp only [microWrite, State.goto_pos, State.goto_stopb, hst, h2, reduceIte, Bool.false_eq_true] <;>
      exact h.awaitTick (h.write_critical rfl)
  | t2 => exact h.awaitTick (h.write_critical rfl)
  | leave =>
    exact State.SameValues.outcome { h with
      pos := rfl, ie := h.ieSaved rfl, txb := nofun, q := nofun, ieSaved := nofun }

/-! ## Steps -/

/-- No micro-step of a command's body reads an element that holds no value. -/
theorem same_micro_body (h : s.SameValues t) (hs : s.InvAt s.pos) (ht : t.InvAt t.pos) (i : Instr)
    (hadm : s.pos ≠ .adm) (hdone : s.pos ≠ .done) :
    SameOutcome s t (.next (micro i s)) (.next (micro i t)) := by
  have hpt := h.pos
  cases hf : s.pos.fits i with
  | false =>
    rw [micro_of_not_fits hf, micro_of_not_fits (hpt ▸ hf)]
    exact h.refl_outcome
  | true =>
    generalize hp : s.pos = p at *
    rw [hpt] at ht
    have h := h.at hp
    rw [← State.goto_eq_self hp, ← State.goto_eq_self hpt]
    cases p with
    | idle => cases i <;> cases hf
    | adm => contradiction
    | done => contradiction
    | construct p => cases i <;> cases hf; exact same_microConstruct h hs ht _ _ _ _ _
    | begin p => cases i <;> cases hf; exact same_microBegin h _ _ _
    | write p => cases i <;> cases hf; exact same_microWrite h hs ht _ _ _ _
    | destroy p => cases i <;> cases hf; exact same_microDestroy h
    | clkConfigure => cases i <;> cases hf; exact same_microClkConfigure h _ _
    | clkAwait => cases i <;> cases hf; exact h.awaitTick (q := .done) { h with pos := rfl }
    | clkStop => cases i <;> cases hf; exact same_microClkStop h

/-- SEQ's micro-turn reads no element that holds no value. -/
theorem State.SameValues.microTurn (hs : s.Inv) (ht : t.Inv) (h : s.SameValues t) :
    SameOutcome s t (.next s.microTurn) (.next t.microTurn) := by
  cases he : s.seqEnabled with
  | false =>
    rw [State.microTurn_of_not_enabled he, State.microTurn_of_not_enabled (h.seqEnabled_eq.trans he)]
    exact h.refl_outcome
  | true =>
    have het := h.seqEnabled_eq.trans he
    have hcmd := h.cmd ((State.seqEnabled_iff s).1 he).1
    cases hd : decode s.cmd with
    | error e =>
      rw [State.microTurn_of_illegal he hd, State.microTurn_of_illegal het (by rw [hcmd]; exact hd)]
      simp only [State.illegalCommand, State.raiseFault, h.pos, h.fault]
      split_ifs
      · exact State.SameValues.outcome { h with pos := rfl, fault := rfl }
      · exact h.refl_outcome
      · exact h.refl_outcome
    | ok i =>
      rw [State.microTurn_of_decode he hd, State.microTurn_of_decode het (by rw [hcmd]; exact hd)]
      by_cases hadm : s.pos = .adm
      · rw [micro_adm hadm, micro_adm (h.pos.trans hadm)]
        exact h.admitOrFault hadm i
      by_cases hdone : s.pos = .done
      · rw [micro_done hdone, micro_done (h.pos.trans hdone)]
        exact h.completion hdone i
      · exact same_micro_body h hs.at ht.at i hadm hdone

/-- SEQ's micro-turns in a row read no element that holds no value. -/
theorem State.SameValues.microTurn_iterate (n : Nat) (hs : s.Inv) (ht : t.Inv) (h : s.SameValues t) :
    SameOutcome s t (.next (State.microTurn^[n] s)) (.next (State.microTurn^[n] t)) := by
  induction n generalizing s t with
  | zero => exact h.refl_outcome
  | succ n ih =>
    have hone := h.microTurn hs ht
    exact hone.trans (ih hs.microTurn ht.microTurn hone.1)

/-- HOST writes neither `RES` nor a port data bit (20_memory.md R59). -/
theorem State.hostTurn_keeps (s : State) : s.hostTurn.res = s.res ∧ s.hostTurn.portData = s.portData := by
  rcases s.hostTurn_cases with h | ⟨_, _, ⟨w, rest, h⟩ | ⟨b, rest, h⟩⟩ <;> rw [h] <;> exact ⟨rfl, rfl⟩

theorem State.SameValues.refl (s : State) : s.SameValues s := by
  constructor <;> intros <;> rfl

/-- No turn reads an element that holds no value. -/
theorem State.SameValues.turn (hs : s.Inv) (ht : t.Inv) (h : s.SameValues t) (u : Turn) :
    SameOutcome s t (s.turn u) (t.turn u) := by
  cases u with
  | host => exact (h.hostTurn hs).outcome s.hostTurn_keeps t.hostTurn_keeps
  | seq =>
    show SameOutcome s t s.seqTurn t.seqTurn
    rw [State.seqTurn_eq_iterate, State.seqTurn_eq_iterate]
    exact h.microTurn_iterate seqFuel hs ht
  | micro => exact h.microTurn hs ht
  | clk => exact h.tmrClk.outcome (by simp) (by simp)
  | matchEvent => exact h.tmrMatch.outcome (by simp) (by simp)
  | env a =>
    show SameOutcome s t (s.envTurn a) (t.envTurn a)
    unfold State.envTurn
    rw [h.ie]
    split
    · exact h.portAct hs ht a
    · exact h.refl_outcome
  | platform a => exact h.portAct hs ht a
  | rst =>
    have hrst : t.rst = s.rst := by simp only [State.rst, h.cfg, h.host, h.sched]
    show SameOutcome s t (.next s.rst) (.next t.rst)
    rw [hrst]
    exact ⟨.refl _, .inl rfl, fun _ _ => .inl rfl⟩

/-- Settles O6: both states take the same turn, and no turn reads an element that holds no value. -/
theorem unsetElementsAreNeverRead : Obligations.UnsetElementsAreNeverRead := by
  unfold Obligations.UnsetElementsAreNeverRead
  intro s t hs ht h
  rw [step_eq_turn_unscheduled, step_eq_turn_unscheduled, h.nextTurn_eq]
  have h' : s.unscheduled.SameValues t.unscheduled := { h with sched := congrArg List.tail h.sched }
  exact (h'.turn hs.unscheduled ht.unscheduled s.nextTurn).of_unscheduled

end Sys2Proof.Machine
end

section
/-! PROOFS. Ports (20_memory.md R42, R43, R59): what an access to one bit of a port register changes. -/

namespace Sys2Proof.Machine

variable {s : State}

/-! ## Pin writes -/

/-- A second access to the same bits with the same level changes nothing. -/
theorem PortFile.drive_drive {f : PortFile} (h : f.wf = true) (p m : Nat) (b : Bool) :
    (f.drive p m b).drive p m b = f.drive p m b := by
  have hd := PortFile.wf_drive h p m b
  refine PortFile.ext_read (PortFile.wf_drive hd p m b) hd fun q => Nat.eq_of_testBit_eq fun k => ?_
  rw [PortFile.testBit_drive hd, PortFile.testBit_drive h]
  split <;> rfl

/-- A pin write is idempotent (20_memory.md R42). -/
theorem State.pinWrite_pinWrite (h : s.portData.wf = true) (i : Fin 4) (b : Level) :
    (s.pinWrite i b).pinWrite i b = s.pinWrite i b :=
  congrArg (fun f : PortFile => { s with portData := f })
    (PortFile.drive_drive h (s.ch.get i).port (s.ch.get i).mask b)

/-- Settles O53: a pin write is a drive of the channel's mask, which has the one bit `k`. -/
theorem pinWriteChangesOneBit : Obligations.PinWriteChangesOneBit := by
  unfold Obligations.PinWriteChangesOneBit
  intro s i k b hwf hmask
  have hbit : ∀ port bit, ((s.pinWrite i b).portData.read port).testBit bit =
      if port = (s.ch.get i).port ∧ bit = k then b else (s.portData.read port).testBit bit := by
    intro port bit
    rw [State.pinWrite_portData, hmask, PortFile.testBit_drive_two_pow hwf]
    simp only [eq_comm]
  refine ⟨rfl, ?_, State.pinWrite_pinWrite hwf i b, hbit⟩
  rw [State.txd_eq_testBit (s := s.pinWrite i b) hmask, hbit, State.pinWrite_ch, if_pos ⟨rfl, rfl⟩]

/-! ## Mode switches -/

/-- A mode switch ors the mask into its register (20_memory.md R43). -/
theorem PortFile.read_drive_true {f : PortFile} (h : f.wf = true) (p m q : Nat) :
    (f.drive p m true).read q = if q = p then f.read q ||| m else f.read q := by
  rw [PortFile.drive, PortFile.read_write h]
  by_cases hq : p = q
  · subst hq; simp [setBits]
  · simp [hq, Ne.symm hq]

/-- All a micro-step does to `PORTMODE`: nothing, or CONSTRUCT's mode switch of one channel (41_lifecycle.md
R101). -/
theorem micro_portMode (i : Instr) (s : State) :
    (micro i s).portMode = s.portMode ∨ ∃ j, (micro i s).portMode = (s.pinMode j).portMode := by
  by_cases hc : i.mnemonic ∈ ["CONSTRUCT"]
  · by_cases hadm : s.pos = .adm
    · exact .inl (by simp [micro_adm hadm])
    cases i with
    | construct p0 p1 p2 p3 inv =>
      generalize hp : s.pos = p at hadm
      rw [← State.goto_eq_self hp]
      cases p with
      | construct p =>
        cases p with
        | mode j => exact .inr ⟨j, rfl⟩
        | bind | polarity | drive | clockStart | clearCfgSet | setConstructed => exact .inl rfl
      | adm => contradiction
      | idle | begin | write | destroy | clkConfigure | clkAwait | clkStop | done => exact .inl rfl
    | _ => simp [Instr.mnemonic] at hc
  · exact .inl ((micro_writesByTable i s).portMode hc)

/-- Settles O54: the mode switch sets bits only, and it is all that a micro-step does to the mode
registers. -/
theorem outputModeIsNeverUndone : Obligations.OutputModeIsNeverUndone := by
  unfold Obligations.OutputModeIsNeverUndone
  refine ⟨fun s i hwf => ?_, fun s t i hwf h port bit hset => ?_⟩
  · have hread : ∀ port, (s.pinMode i).portMode.read port =
        if port = (s.ch.get i).port then s.portMode.read port ||| (s.ch.get i).mask
        else s.portMode.read port := PortFile.read_drive_true hwf _ _
    refine ⟨rfl, hread, fun hm => ?_⟩
    rw [State.oe, hread, State.pinMode_ch, if_pos rfl]
    simpa [Nat.and_or_distrib_right] using fun _ => hm
  · rw [exec_eq_runSeq] at h
    injection h with h
    subst h
    refine (runSeq_induct (P := fun u => u.portMode.wf = true ∧ (u.portMode.read port).testBit bit = true)
      (fun u _ hu => ?_) seqFuel s ⟨hwf, hset⟩).2
    obtain ⟨huwf, hubit⟩ := hu
    rcases micro_portMode i u with hm | ⟨j, hm⟩ <;> rw [hm]
    · exact ⟨huwf, hubit⟩
    · refine ⟨PortFile.wf_drive huwf _ _ _, ?_⟩
      rw [State.pinMode_portMode, PortFile.testBit_drive huwf, hubit, ite_self]

/-! ## Port changes of ENV and the platform -/

/-- A bit that the port space does not have (20_memory.md R40; notes/assumptions/17.md). -/
theorem State.portAct_of_no_bit {a : PortAct} (h : s.cfg.nport ≤ a.port ∨ s.cfg.portW ≤ a.bit) :
    s.portAct a = .fault .noSuchPort := if_neg (by omega)

/-- A channel bit (20_memory.md R59; notes/assumptions/16.md). -/
theorem State.portAct_of_channel_bit {a : PortAct} (hp : a.port < s.cfg.nport) (hb : a.bit < s.cfg.portW)
    (h : s.isChannelBit a.port a.bit = true) : s.portAct a = .refused .channelBitDuty := by
  rw [State.portAct, if_pos ⟨hp, hb⟩, if_pos h]

/-- A change of a port bit that exists and is no channel bit is a drive of that bit (20_memory.md R59). -/
theorem State.portAct_of_foreign_bit {a : PortAct} (hp : a.port < s.cfg.nport) (hb : a.bit < s.cfg.portW)
    (h : s.isChannelBit a.port a.bit = false) :
    (a.reg = .data ∧
      s.portAct a = .next { s with portData := s.portData.drive a.port (2 ^ a.bit) a.value }) ∨
    (a.reg = .mode ∧
      s.portAct a = .next { s with portMode := s.portMode.drive a.port (2 ^ a.bit) a.value }) := by
  rw [State.portAct, if_pos ⟨hp, hb⟩, if_neg (by simp [h])]
  cases a.reg with
  | data => exact .inl ⟨rfl, rfl⟩
  | mode => exact .inr ⟨rfl, rfl⟩

/-- A line shows its latch and its output enable, no more (10_state.md R16). -/
theorem State.line_congr {t : State} {i : Fin 4} (htxd : t.txd i = s.txd i) (hoe : t.oe i = s.oe i) :
    t.line i = s.line i := by
  rw [State.line, State.line, htxd, hoe]

/-- Settles O56: the three cases of a port change, the last of which drives one bit of one of the two files. -/
theorem environmentChangesOneForeignBit : Obligations.EnvironmentChangesOneForeignBit := by
  unfold Obligations.EnvironmentChangesOneForeignBit
  refine fun s a => ⟨State.portAct_of_no_bit, fun hp hb hch => State.portAct_of_channel_bit hp hb
    ((State.isChannelBit_iff _ _).2 hch), fun hdata hmode hp hb hch => ?_⟩
  have hforeign : s.isChannelBit a.port a.bit = false := by
    rw [← Bool.not_eq_true, State.isChannelBit_iff]
    rintro ⟨i, hi, ho⟩
    exact hch i hi ho
  rcases State.portAct_of_foreign_bit hp hb hforeign with ⟨hreg, ht⟩ | ⟨hreg, ht⟩
  · refine ⟨_, ht, rfl, fun i hi => State.line_congr (State.txd_drive_foreign hdata (hch i hi) _) rfl,
      fun port bit => ⟨?_, by simp [hreg]⟩⟩
    simp [hreg, PortFile.testBit_drive_two_pow hdata, eq_comm]
  · refine ⟨_, ht, rfl, fun i hi => State.line_congr rfl (State.oe_drive_foreign hmode (hch i hi) _),
      fun port bit => ⟨by simp [hreg], ?_⟩⟩
    simp [hreg, PortFile.testBit_drive_two_pow hmode, eq_comm]

end Sys2Proof.Machine
end

section
/-! PROOFS. TMR's turns under the slot law (20_memory.md R52, R54; 40_clock.md R84 to R87). -/

namespace Sys2Proof.Machine

variable {s : State}

/-- A clock sets the flag at a match and at no other time (40_clock.md R84). -/
theorem Timer.clk_ocf (t : Timer) : t.clk.ocf = (t.ocf || t.clkMatches) := by
  unfold Timer.clk Timer.clkMatches Timer.clkTicks
  split_ifs <;> simp_all

/-- The match event can come iff the timer runs with nonzero divider and compare value (40_clock.md R85). -/
theorem Timer.canMatch_iff (t : Timer) : t.canMatch = true ↔ t.run = true ∧ t.div ≠ 0 ∧ t.cmp ≠ 0 := by
  simp [Timer.canMatch, and_assoc]

/-- A match at a clock is a match of a timer that can match (40_clock.md R84, R85). -/
theorem Timer.canMatch_of_clkMatches {t : Timer} (h : t.clkMatches = true) : t.canMatch = true := by
  simp only [Timer.clkMatches, Timer.clkTicks, Timer.tickMatches, Bool.and_eq_true, bne_iff_ne] at h
  obtain ⟨⟨⟨hrun, hdiv⟩, -⟩, hcmp, -⟩ := h
  exact t.canMatch_iff.2 ⟨hrun, hdiv, hcmp⟩

/-- The slot law (20_memory.md R52). -/
theorem State.slotOpen_iff (s : State) :
    s.slotOpen = true ↔ (s.busy = true → s.fault = 0 → isWrite s.cmd = true → s.pos.isAwait = true) := by
  simp only [State.slotOpen, Bool.not_eq_true', Bool.and_eq_false_imp, beq_iff_eq, Bool.and_eq_true,
    Bool.not_eq_false', and_imp]

/-- TMR writes the timer only, at a clock. -/
theorem State.tmrClk_eq (s : State) : s.tmrClk = { s with timer := s.tmrClk.timer } := by
  unfold State.tmrClk; split <;> rfl

/-- TMR writes the timer only, at the match event. -/
theorem State.tmrMatch_eq (s : State) : s.tmrMatch = { s with timer := s.tmrMatch.timer } := by
  unfold State.tmrMatch; split <;> rfl

/-- When TMR has the match event as a step (40_clock.md R85, 20_memory.md R52). -/
theorem State.matchEnabled_iff (s : State) :
    s.matchEnabled = true ↔ s.timer.canMatch = true ∧ s.slotOpen = true := by
  simp [State.matchEnabled]

/-- A clock that changes the flag is a match that TMR has as a step. -/
theorem State.matchEnabled_of_tmrClk_ocf (h : s.tmrClk.timer.ocf ≠ s.timer.ocf) :
    s.matchEnabled = true := by
  rw [State.tmrClk_timer] at h
  split at h
  · exact absurd rfl h
  next hlaw =>
    have hm : s.timer.clkMatches = true := by
      by_contra hm
      exact h (by simp [Timer.clk_ocf, hm])
    exact s.matchEnabled_iff.2 ⟨Timer.canMatch_of_clkMatches hm, by simpa [hm] using hlaw⟩

/-- A match event that changes the flag is a step of TMR. -/
theorem State.matchEnabled_of_tmrMatch_ocf (h : s.tmrMatch.timer.ocf ≠ s.timer.ocf) :
    s.matchEnabled = true := by
  by_contra hne
  rw [State.tmrMatch_timer, if_neg hne] at h
  exact h rfl

/-- Settles O30: both turns of TMR write the timer only, keep all but its phase, and set the flag at a match
under the slot law. -/
theorem timerOnlySetsTheFlag : Obligations.TimerOnlySetsTheFlag := by
  unfold Obligations.TimerOnlySetsTheFlag
  intro s t hu h
  rw [step_eq_turn_unscheduled] at h
  rcases hu with hu | hu <;> rw [hu] at h <;> cases h
  · obtain ⟨hrun, hdiv, hcmp, hocf⟩ := s.unscheduled.tmrClk_keeps
    refine ⟨s.unscheduled.tmrClk_eq, hrun, hdiv, hcmp, hocf, fun hne => ?_⟩
    obtain ⟨hm, hlaw⟩ := (State.matchEnabled_iff _).1 (State.matchEnabled_of_tmrClk_ocf hne)
    exact ⟨hm, (State.slotOpen_iff _).1 hlaw⟩
  · obtain ⟨hrun, hdiv, hcmp, hocf⟩ := s.unscheduled.tmrMatch_keeps
    refine ⟨s.unscheduled.tmrMatch_eq, hrun, hdiv, hcmp, hocf, fun hne => ?_⟩
    obtain ⟨hm, hlaw⟩ := (State.matchEnabled_iff _).1 (State.matchEnabled_of_tmrMatch_ocf hne)
    exact ⟨hm, (State.slotOpen_iff _).1 hlaw⟩

/-- A match event that TMR does not have as a step changes nothing (notes/assumptions/11.md). -/
theorem State.tmrMatch_of_not_enabled (h : ¬s.matchEnabled = true) : s.tmrMatch = s := if_neg h

/-- The match event does not depend on the schedule. -/
@[simp] theorem State.unscheduled_matchEnabled (s : State) :
    s.unscheduled.matchEnabled = s.matchEnabled := rfl

/-- Settles O31: the match event is a step iff the timer can match and the slot law allows it. -/
theorem matchEventIsTakenUnderTheSlotLaw : Obligations.MatchEventIsTakenUnderTheSlotLaw := by
  unfold Obligations.MatchEventIsTakenUnderTheSlotLaw
  intro s hu
  have hstep : step s = .next s.unscheduled.tmrMatch := by rw [step_eq_turn_unscheduled, hu]; rfl
  have hnot : ¬s.matchEnabled = true → step s = .next s.unscheduled := fun h => by
    rw [hstep, State.tmrMatch_of_not_enabled (s := s.unscheduled) h]
  have hiff := s.matchEnabled_iff
  rw [State.slotOpen_iff] at hiff
  refine ⟨fun hm hlaw => ⟨_, hstep, ?_⟩, fun hb hf hw ha => hnot fun he => ?_,
    fun hless => hnot fun he => ?_⟩
  · have he : s.matchEnabled = true := hiff.2 ⟨hm, fun hb hf hw => by simpa [hb, hf, hw] using hlaw⟩
    rw [State.tmrMatch_timer, State.unscheduled_matchEnabled, if_pos he]
    rfl
  · simpa [ha] using (hiff.1 he).2 hb hf hw
  · obtain ⟨hrun, hdiv, hcmp⟩ := (Timer.canMatch_iff _).1 (hiff.1 he).1
    rcases hless with h | h | h
    · simp [hrun] at h
    · exact hdiv h
    · exact hcmp h

end Sys2Proof.Machine
end

section
/-! PROOFS. `exec` as a run of micro-steps to rest (20_memory.md R51; notes/assumptions/3.md). -/

namespace Sys2Proof.Machine

variable {s : State}

/-! ## How far SEQ is from rest -/

/-- A bound for the number of micro-steps from a position of WRITE to the next `await tick` or to the
end of the command (42_write.md R139). -/
def WritePos.stepsToRest : WritePos → Nat
  | .latch i => 9 - i.val
  | .count i => 5 - i.val
  | .enter => 1
  | .drv _ i => 4 - i.val
  | .leave => 2
  | .pre _ | .await _ | .t1 | .t2 => 0

/-- The number of micro-steps from a line of CONSTRUCT to the end of the command (41_lifecycle.md R101). -/
def ConstructPos.stepsToRest : ConstructPos → Nat
  | .bind i => 17 - i.val
  | .polarity => 13
  | .drive i => 12 - 2 * i.val
  | .mode i => 11 - 2 * i.val
  | .clockStart => 4
  | .clearCfgSet => 3
  | .setConstructed => 2

/-- A bound for the number of micro-steps from a position to the next `await tick` or to the end of
the command. -/
def Pos.stepsToRest : Pos → Nat
  | .idle => 0
  | .adm => 18
  | .construct p => p.stepsToRest
  | .begin .storeParity => 5
  | .begin .storeStop => 4
  | .begin .setCfgSet => 3
  | .begin .clockStart => 2
  | .write p => p.stepsToRest
  | .destroy .stopClock => 4
  | .destroy .clearCfgSet => 3
  | .destroy .clearConstructed => 2
  | .clkConfigure => 2
  | .clkAwait => 0
  | .clkStop => 2
  | .done => 1

/-- A bound for the number of micro-steps before SEQ rests: a flag that is set lets one `await tick` pass, which
clears it (40_clock.md R82), and no more than 4 micro-steps follow before the next. -/
def State.stepsToRest (s : State) : Nat := s.pos.stepsToRest + 5 * s.timer.ocf.toNat

/-- No position is farther from rest than the admission of CONSTRUCT. -/
theorem Pos.stepsToRest_le (p : Pos) : p.stepsToRest ≤ 18 := by
  cases p with
  | idle | adm | clkConfigure | clkAwait | clkStop | done => simp [Pos.stepsToRest]
  | construct p => cases p <;> simp only [Pos.stepsToRest, ConstructPos.stepsToRest] <;> omega
  | write p => cases p <;> simp only [Pos.stepsToRest, WritePos.stepsToRest] <;> omega
  | begin p => cases p <;> simp [Pos.stepsToRest]
  | destroy p => cases p <;> simp [Pos.stepsToRest]

/-- The fuel of `exec` is more than SEQ takes to rest. -/
theorem State.stepsToRest_lt (s : State) : s.stepsToRest < seqFuel := by
  have hpos := s.pos.stepsToRest_le
  have hocf := Bool.toNat_le s.timer.ocf
  unfold State.stepsToRest seqFuel
  omega

/-- Where a micro-step of a command's body leads: on inside the command, and nearer to rest by one at
least. -/
structure Pos.LeadsTo (p : Pos) (i : Instr) (q : Pos) : Prop where
  fits : q.fits i = true
  nearer : q.stepsToRest < p.stepsToRest

/-- The lines of CONSTRUCT's pseudocode, in order (41_lifecycle.md R101). -/
theorem leadsTo_microConstruct {p : ConstructPos} (p0 p1 p2 p3 : PinId) (inv : Bool) :
    (Pos.construct p).LeadsTo (.construct p0 p1 p2 p3 inv)
      (microConstruct p0 p1 p2 p3 inv (s.goto (.construct p))).pos := by
  cases p with
  | bind i =>
    rcases nextLane_cases i with ⟨j, hj, hij⟩ | ⟨hj, hi⟩ <;> simp only [microConstruct, State.goto_pos, hj]
    · exact ⟨rfl, show 17 - j.val < 17 - i.val by omega⟩
    · exact ⟨rfl, show 13 < 17 - i.val by omega⟩
  | mode i =>
    rcases nextLane_cases i with ⟨j, hj, hij⟩ | ⟨hj, hi⟩ <;> simp only [microConstruct, State.goto_pos, hj]
    · exact ⟨rfl, show 12 - 2 * j.val < 11 - 2 * i.val by omega⟩
    · exact ⟨rfl, show 4 < 11 - 2 * i.val by omega⟩
  | drive i => exact ⟨rfl, show 11 - 2 * i.val < 12 - 2 * i.val by omega⟩
  | polarity | clockStart | clearCfgSet | setConstructed => exact ⟨rfl, Nat.le_refl _⟩

/-- The last pin write of a slot leads to an `await tick`. -/
theorem stepsToRest_afterSlot (pmode : BitVec 2) (slot : Slot) : (afterSlot pmode slot).stepsToRest = 0 := by
  cases slot with
  | bit k => simp only [afterSlot]; split_ifs <;> rfl
  | start | par | stop => rfl

/-- The positions of WRITE between two waits, in order (42_write.md R139). -/
theorem leadsTo_microWrite {p : WritePos} (hp : (Pos.write p).isAwait = false) (d0 d1 d2 d3 : Byte) :
    (Pos.write p).LeadsTo (.write d0 d1 d2 d3) (microWrite d0 d1 d2 d3 (s.goto (.write p))).pos := by
  cases p with
  | latch i =>
    rcases nextLane_cases i with ⟨j, hj, hij⟩ | ⟨hj, hi⟩ <;> simp only [microWrite, State.goto_pos, hj]
    · exact ⟨rfl, show 9 - j.val < 9 - i.val by omega⟩
    · unfold afterLatch
      split
      · exact ⟨rfl, show 5 < 9 - i.val by omega⟩
      · exact ⟨rfl, show 1 < 9 - i.val by omega⟩
  | count i =>
    rcases nextLane_cases i with ⟨j, hj, hij⟩ | ⟨hj, hi⟩ <;> simp only [microWrite, State.goto_pos, hj]
    · exact ⟨rfl, show 5 - j.val < 5 - i.val by omega⟩
    · exact ⟨rfl, show 1 < 5 - i.val by omega⟩
  | enter =>
    simp only [microWrite, State.goto_pos, afterEnter]
    split <;> exact ⟨rfl, Nat.le_refl _⟩
  | drv slot i =>
    rcases nextLane_cases i with ⟨j, hj, hij⟩ | ⟨hj, hi⟩ <;> simp only [microWrite, State.goto_pos, hj]
    · exact ⟨rfl, show 4 - j.val < 4 - i.val by omega⟩
    · have hrest := stepsToRest_afterSlot s.pmode slot
      exact ⟨rfl, show (afterSlot s.pmode slot).stepsToRest < 4 - i.val by omega⟩
  | leave => exact ⟨rfl, Nat.le_refl _⟩
  | pre | await | t1 | t2 => cases hp

/-- Every micro-step of a command's body but an `await tick` leads on inside the command and nearer to rest. -/
theorem leadsTo_micro_body {i : Instr} (hf : s.pos.fits i = true) (hadm : s.pos ≠ .adm)
    (hdone : s.pos ≠ .done) (hw : s.pos.isAwait = false) : s.pos.LeadsTo i (micro i s).pos := by
  generalize hp : s.pos = p at *
  rw [← State.goto_eq_self hp]
  cases p with
  | idle => cases i <;> cases hf
  | adm => contradiction
  | done => contradiction
  | construct p => cases i <;> cases hf; exact leadsTo_microConstruct ..
  | begin p => cases i <;> cases hf; cases p <;> exact ⟨rfl, Nat.le_refl _⟩
  | write p => cases i <;> cases hf; exact leadsTo_microWrite hw ..
  | destroy p => cases i <;> cases hf; cases p <;> exact ⟨rfl, Nat.le_refl _⟩
  | clkConfigure => cases i <;> cases hf; exact ⟨rfl, Nat.le_refl _⟩
  | clkAwait => cases hw
  | clkStop => cases i <;> cases hf; exact ⟨rfl, Nat.le_refl _⟩

/-- Every `await tick` that finds the flag set clears it, and leads on inside the command, at most 4
micro-steps before the next (40_clock.md R82). -/
theorem micro_await {i : Instr} (hf : s.pos.fits i = true) (hw : s.pos.isAwait = true)
    (ho : s.timer.ocf = true) :
    (micro i s).timer.ocf = false ∧ (micro i s).pos.fits i = true ∧ (micro i s).pos.stepsToRest ≤ 4 := by
  obtain ⟨q, hq, hfq, hrq⟩ : ∃ q, micro i s = s.awaitTick q ∧ q.fits i = true ∧ q.stepsToRest ≤ 4 := by
    generalize hp : s.pos = p at *
    rw [← State.goto_eq_self hp]
    cases p with
    | write p =>
      cases i <;> cases hf
      cases p with
      | pre left => cases left <;> exact ⟨_, rfl, rfl, Nat.zero_le _⟩
      | await slot => exact ⟨_, rfl, rfl, Nat.le_refl _⟩
      | t1 => exact ⟨_, rfl, by split <;> rfl, by split <;> decide⟩
      | t2 => exact ⟨_, rfl, rfl, by decide⟩
      | latch | count | enter | drv | leave => cases hw
    | clkAwait => cases i <;> cases hf; exact ⟨_, rfl, rfl, by decide⟩
    | idle | adm | construct | begin | destroy | clkConfigure | clkStop | done => cases hw
  rw [hq, State.awaitTick_eq ho]
  exact ⟨rfl, hfq, hrq⟩

/-- The first position of a command's body is one of the command's, and nearer to rest than the admission. -/
theorem leadsTo_firstPos (i : Instr) : Pos.adm.LeadsTo i (firstPos i) := by
  refine ⟨by cases i <;> rfl, ?_⟩
  cases i <;> simp [firstPos, Pos.stepsToRest, ConstructPos.stepsToRest, WritePos.stepsToRest]

/-- A micro-step that does not set the flag and leads on inside the command brings SEQ nearer to rest. -/
theorem Pos.LeadsTo.stepsToRest_lt {i : Instr} {t : State} (h : s.pos.LeadsTo i t.pos)
    (ho : s.timer.ocf = false → t.timer.ocf = false) : t.stepsToRest < s.stepsToRest := by
  have hpos := h.nearer
  have hocf : t.timer.ocf.toNat ≤ s.timer.ocf.toNat := by
    cases hs : s.timer.ocf with
    | false => simp [ho hs]
    | true => exact Bool.toNat_le _
  unfold State.stepsToRest
  omega

/-- Every fault code is a fault (60_exceptions.md R161). -/
theorem FaultCode.bits_ne_zero (c : FaultCode) : c.bits ≠ 0 := by cases c <;> decide

/-- Every micro-step ends SEQ's run, by completion or by a fault, or brings it nearer to rest. -/
theorem micro_descends {i : Instr} (he : s.seqEnabled = true) (hf : s.pos.fits i = true) :
    (micro i s).seqEnabled = false ∨
      ((micro i s).pos.fits i = true ∧ (micro i s).stepsToRest < s.stepsToRest) := by
  obtain ⟨hb, hfault, hidle, hwait⟩ := (State.seqEnabled_iff s).1 he
  have hclears := (micro_writesByTable i s).clears
  by_cases hadm : s.pos = .adm
  · rw [micro_adm hadm] at hclears ⊢
    rcases s.admitOrFault_cases i (firstPos i) with ⟨-, h⟩ | ⟨c, -, h⟩ <;> rw [h] at hclears ⊢
    · have hlead : s.pos.LeadsTo i (firstPos i) := hadm ▸ leadsTo_firstPos i
      exact .inr ⟨hlead.fits, Pos.LeadsTo.stepsToRest_lt (t := s.goto (firstPos i)) hlead hclears⟩
    · refine .inl (State.seqEnabled_of_fault ?_)
      rw [State.raiseFault_eq hfault]
      exact c.bits_ne_zero
  by_cases hdone : s.pos = .done
  · rw [micro_done hdone]
    exact .inl rfl
  cases hw : s.pos.isAwait with
  | false =>
    have hlead := leadsTo_micro_body hf hadm hdone hw
    exact .inr ⟨hlead.fits, hlead.stepsToRest_lt hclears⟩
  | true =>
    obtain ⟨hocf, hfits, hrest⟩ := micro_await hf hw (hwait hw)
    refine .inr ⟨hfits, ?_⟩
    simp only [State.stepsToRest, hocf, hwait hw, Bool.toNat_false, Bool.toNat_true]
    omega

/-- A run of more micro-steps than SEQ may take to rest ends where SEQ has no step. -/
theorem runSeq_rests {i : Instr} (n : Nat) (s : State) (hf : s.pos.fits i = true) (hn : s.stepsToRest < n) :
    (runSeq (micro i) n s).seqEnabled = false := by
  induction n generalizing s with
  | zero => omega
  | succ n ih =>
    cases he : s.seqEnabled with
    | false => rw [runSeq_of_not_enabled _ _ he, he]
    | true =>
      rw [runSeq_succ, if_pos he]
      rcases micro_descends he hf with hrest | ⟨hfits, hlt⟩
      · rw [runSeq_of_not_enabled _ _ hrest, hrest]
      · exact ih _ hfits (by omega)

/-- Settles O49: a run of micro-steps is a run of micro-turns, and 32 are more than SEQ takes to rest. -/
theorem execRunsMicroStepsToRest : Obligations.ExecRunsMicroStepsToRest := by
  unfold Obligations.ExecRunsMicroStepsToRest
  intro s t i hd hf h
  rw [exec_eq_runSeq] at h
  injection h with h
  subst h
  exact ⟨runSeq_rests _ _ hf s.stepsToRest_lt, seqFuel, le_rfl, runSeq_eq_iterate _ _ hd⟩

/-! ## The command that a step runs -/

/-- A command that the decoder gives is well-formed (30_encoding.md R66, R67). -/
theorem wf_of_decode {w : CmdWord} {i : Instr} (h : decode w = .ok i) : i.wf = true := by
  cases i with
  | begin rate par stop => simpa [Instr.wf] using parity_of_decode h
  | construct | write | read | available | flush | valid | destroy | clkConfigure | clkAwait | clkStop => rfl

/-- SEQ's turn runs the decoded command (20_memory.md R51). -/
theorem State.seqTurn_of_decode {i : Instr} (he : s.seqEnabled = true) (hd : decode s.cmd = .ok i) :
    s.seqTurn = exec i s := by
  simp [State.seqTurn, he, hd]

/-- No turn is taken off an empty schedule. -/
theorem State.unscheduled_of_nil (h : s.sched = []) : s.unscheduled = s := by
  cases s; cases h; rfl

/-- Settles O7: the default turn is SEQ's where SEQ has a step, and SEQ's turn runs the decoded command. -/
theorem stepRunsTheDecodedCommand : Obligations.StepRunsTheDecodedCommand := by
  unfold Obligations.StepRunsTheDecodedCommand
  intro s i hd he
  have hseq : s.nextTurn = .seq → step s = exec i s.unscheduled := fun hu => by
    rw [step_eq_turn_unscheduled, hu]
    exact State.seqTurn_of_decode he hd
  refine ⟨wf_of_decode hd, hseq, fun hs => ?_⟩
  rw [hseq (by simp [State.nextTurn, hs, State.defaultTurn, he])]
  exact congrArg (exec i) (State.unscheduled_of_nil hs)

end Sys2Proof.Machine
end

section
/-! PROOFS. The decoder and the encoder, format by format (30_encoding.md R60 to R66): a command's word is the
word whose opcode and operand field are the command's, and it is the only word that decodes to it. -/

namespace Sys2Proof

/-! ## Fields of a word -/

/-- A field reads as `x ++ y` iff its two parts read as `x` and as `y`. -/
theorem extractLsb'_eq_append_iff {k n m a : Nat} {w : BitVec k} {x : BitVec n} {y : BitVec m} :
    w.extractLsb' a (n + m) = x ++ y ↔ w.extractLsb' (a + m) n = x ∧ w.extractLsb' a m = y := by
  rw [← BitVec.extractLsb'_append_extractLsb'_eq_extractLsb' rfl]
  constructor
  · intro h
    have hx := congrArg (BitVec.extractLsb' m n) h
    have hy := congrArg (BitVec.extractLsb' 0 m) h
    rw [BitVec.extractLsb'_append_eq_left, BitVec.extractLsb'_append_eq_left] at hx
    rw [BitVec.extractLsb'_append_eq_right, BitVec.extractLsb'_append_eq_right] at hy
    exact ⟨hx, hy⟩
  · rintro ⟨rfl, rfl⟩
    rfl

/-- A field of one bit. -/
theorem extractLsb'_eq_ofBool_iff {k a : Nat} {w : BitVec k} {b : Bool} :
    w.extractLsb' a 1 = BitVec.ofBool b ↔ w.getLsbD a = b := by
  constructor
  · intro h
    have hbit := congrArg (BitVec.getLsbD · 0) h
    simpa using hbit
  · rintro rfl
    ext i hi
    obtain rfl : i = 0 := by omega
    simp

/-- A field under the ones of a mask is the field of the pattern that the mask leaves. -/
theorem field_of_and_eq {w mask pattern : CmdWord} (h : w &&& mask = pattern) {a n : Nat}
    (hm : mask.extractLsb' a n = BitVec.allOnes n) : w.extractLsb' a n = pattern.extractLsb' a n := by
  rw [← h, BitVec.extractLsb'_and, hm, BitVec.and_allOnes]

/-! ## The five formats -/

/-- The opcode of a command (30_encoding.md R66). -/
def Instr.opcode : Instr → BitVec 8
  | .construct .. => 0x01
  | .begin .. => 0x02
  | .write .. => 0x03
  | .read => 0x04
  | .available => 0x05
  | .flush => 0x06
  | .valid => 0x07
  | .destroy => 0x08
  | .clkConfigure .. => 0x10
  | .clkAwait => 0x11
  | .clkStop => 0x12

/-- The operand field of `w`, from bit 39 down, is that of the command (30_encoding.md R61 to R65). -/
def Instr.OperandsIn (w : CmdWord) : Instr → Prop
  | .construct p0 p1 p2 p3 inv =>
    w.extractLsb' 33 7 = 0 ∧ w.getLsbD 32 = inv ∧
      byteField w 3 = p3 ∧ byteField w 2 = p2 ∧ byteField w 1 = p1 ∧ byteField w 0 = p0
  | .begin rate par stop =>
    w.extractLsb' 34 6 = stop ∧ w.extractLsb' 32 2 = par ∧ w.extractLsb' 0 32 = rate
  | .write d0 d1 d2 d3 =>
    w.extractLsb' 32 8 = 0 ∧
      byteField w 3 = d3 ∧ byteField w 2 = d2 ∧ byteField w 1 = d1 ∧ byteField w 0 = d0
  | .clkConfigure div cmp =>
    w.extractLsb' 32 8 = 0 ∧ w.extractLsb' 16 16 = div ∧ w.extractLsb' 0 16 = cmp
  | .read | .available | .flush | .valid | .destroy | .clkAwait | .clkStop => w.extractLsb' 0 40 = 0

/-- The opcodes of format N (30_encoding.md R61). -/
def formatNOpcodes : List (BitVec 8) := [0x04, 0x05, 0x06, 0x07, 0x08, 0x11, 0x12]

/-- The assigned opcodes (30_encoding.md R66). -/
def assignedOpcodes : List (BitVec 8) := [0x01, 0x02, 0x03, 0x04, 0x05, 0x06, 0x07, 0x08, 0x10, 0x11, 0x12]

/-- The operand field of a command of format N is reserved (30_encoding.md R61). -/
theorem Instr.operandsIn_of_formatN {w : CmdWord} {i : Instr} (hi : i.opcode ∈ formatNOpcodes)
    (hres : w.extractLsb' 0 40 = 0) : i.OperandsIn w := by
  cases i with
  | construct | begin | write | clkConfigure => exact absurd hi (by simp [Instr.opcode, formatNOpcodes])
  | read | available | flush | valid | destroy | clkAwait | clkStop => exact hres

/-! ## The encoder -/

/-- A word is the word of a command iff its opcode and its operand field are the command's. -/
theorem encode_eq_iff (i : Instr) (w : CmdWord) : encode i = w ↔ opField w = i.opcode ∧ i.OperandsIn w := by
  have hword : encode i = w ↔ w.extractLsb' 0 48 = encode i := by
    rw [BitVec.extractLsb'_eq_self, eq_comm]
  refine hword.trans ?_
  cases i with
  | construct p0 p1 p2 p3 inv =>
    show w.extractLsb' 0 (8 + 7 + 1 + 8 + 8 + 8 + 8) =
      0x01#8 ++ 0#7 ++ BitVec.ofBool inv ++ p3 ++ p2 ++ p1 ++ p0 ↔ _
    simp only [extractLsb'_eq_append_iff, extractLsb'_eq_ofBool_iff, and_assoc]
    rfl
  | begin rate par stop =>
    show w.extractLsb' 0 (8 + 6 + 2 + 32) = 0x02#8 ++ stop ++ par ++ rate ↔ _
    simp only [extractLsb'_eq_append_iff, and_assoc]
    rfl
  | write d0 d1 d2 d3 =>
    show w.extractLsb' 0 (8 + 8 + 8 + 8 + 8 + 8) = 0x03#8 ++ 0#8 ++ d3 ++ d2 ++ d1 ++ d0 ↔ _
    simp only [extractLsb'_eq_append_iff, and_assoc]
    rfl
  | clkConfigure div cmp =>
    show w.extractLsb' 0 (8 + 8 + 16 + 16) = 0x10#8 ++ 0#8 ++ div ++ cmp ↔ _
    simp only [extractLsb'_eq_append_iff, and_assoc]
    rfl
  | read | available | flush | valid | destroy | clkAwait | clkStop =>
    exact extractLsb'_eq_append_iff (n := 8) (m := 40)

/-! ## The decoder -/

/-- What the decoder does with a word, by its opcode (30_encoding.md R60, R66, R69). -/
inductive DecodesBy (w : CmdWord) : Prop
  /-- CONSTRUCT -/
  | formatC (hop : opField w = 0x01) (hd : decode w = decodeC w)
  /-- BEGIN -/
  | formatB (hop : opField w = 0x02) (hd : decode w = decodeB w)
  /-- WRITE -/
  | formatW (hop : opField w = 0x03) (hd : decode w = decodeW w)
  /-- CLK_CONFIGURE -/
  | formatK (hop : opField w = 0x10) (hd : decode w = decodeK w)
  /-- The commands without an operand. -/
  | formatN (i : Instr) (hop : opField w = i.opcode) (hi : i.opcode ∈ formatNOpcodes)
      (hd : decode w = decodeN w i)
  | unassigned (hop : opField w ∉ assignedOpcodes) (hd : decode w = .error .unassignedOpcode)

/-- The decoder goes by the opcode alone to the check of one format. -/
theorem decodesBy (w : CmdWord) : DecodesBy w := by
  by_cases hop : opField w ∈ assignedOpcodes
  · simp only [assignedOpcodes, List.mem_cons, List.not_mem_nil, or_false] at hop
    rcases hop with h | h | h | h | h | h | h | h | h | h | h
    · exact .formatC h (by simp [decode, h])
    · exact .formatB h (by simp [decode, h])
    · exact .formatW h (by simp [decode, h])
    · exact .formatN .read h (by decide) (by simp [decode, h])
    · exact .formatN .available h (by decide) (by simp [decode, h])
    · exact .formatN .flush h (by decide) (by simp [decode, h])
    · exact .formatN .valid h (by decide) (by simp [decode, h])
    · exact .formatN .destroy h (by decide) (by simp [decode, h])
    · exact .formatK h (by simp [decode, h])
    · exact .formatN .clkAwait h (by decide) (by simp [decode, h])
    · exact .formatN .clkStop h (by decide) (by simp [decode, h])
  · refine .unassigned hop ?_
    have hne : ∀ op ∈ assignedOpcodes, opField w ≠ op := fun op hin he => hop (he ▸ hin)
    simp only [assignedOpcodes, List.forall_mem_cons, BitVec.ofNat_eq_ofNat] at hne
    simp [decode, hne]

/-- A format's check takes a word iff it passes. -/
theorem check_eq_ok_iff {p : Prop} [Decidable p] {i j : Instr} {e : DecodeError} :
    (if p then .ok i else .error e) = Except.ok j ↔ p ∧ i = j := by
  split_ifs <;> simp [*]

/-- A format's check refuses a word iff it fails. -/
theorem check_eq_error_iff {p : Prop} [Decidable p] {i : Instr} {e : DecodeError} :
    (∃ e', (if p then .ok i else .error e) = Except.error e') ↔ ¬p := by
  split_ifs <;> simp [*]

/-- Format B's check, stated as the others' (30_encoding.md R67). -/
theorem decodeB_eq (w : CmdWord) :
    decodeB w = if w.extractLsb' 32 2 ≠ 3 then
      .ok (.begin (w.extractLsb' 0 32) (w.extractLsb' 32 2) (w.extractLsb' 34 6))
    else .error .reservedParity :=
  (ite_not ..).symm

/-- A word decodes to a command iff the command is well-formed and the opcode and the operand field are the
command's. -/
theorem decode_eq_ok_iff (w : CmdWord) (i : Instr) :
    decode w = .ok i ↔ i.wf = true ∧ opField w = i.opcode ∧ i.OperandsIn w := by
  constructor
  · intro h
    refine ⟨Machine.wf_of_decode h, ?_⟩
    cases decodesBy w with
    | formatC hop hd =>
      rw [hd, decodeC, check_eq_ok_iff] at h
      obtain ⟨hres, rfl⟩ := h
      exact ⟨hop, hres, rfl, rfl, rfl, rfl, rfl⟩
    | formatB hop hd =>
      rw [hd, decodeB_eq, check_eq_ok_iff] at h
      obtain ⟨-, rfl⟩ := h
      exact ⟨hop, rfl, rfl, rfl⟩
    | formatW hop hd =>
      rw [hd, decodeW, check_eq_ok_iff] at h
      obtain ⟨hres, rfl⟩ := h
      exact ⟨hop, hres, rfl, rfl, rfl, rfl⟩
    | formatK hop hd =>
      rw [hd, decodeK, check_eq_ok_iff] at h
      obtain ⟨hres, rfl⟩ := h
      exact ⟨hop, hres, rfl, rfl⟩
    | formatN j hop hj hd =>
      rw [hd, decodeN, check_eq_ok_iff] at h
      obtain ⟨hres, rfl⟩ := h
      exact ⟨hop, Instr.operandsIn_of_formatN hj hres⟩
    | unassigned _ hd => rw [hd] at h; cases h
  · rintro ⟨hwf, hop, hargs⟩
    cases i with
    | construct p0 p1 p2 p3 inv =>
      obtain ⟨hres, rfl, rfl, rfl, rfl, rfl⟩ := hargs
      simp [decode, hop, Instr.opcode, decodeC, hres]
    | begin rate par stop =>
      obtain ⟨rfl, rfl, rfl⟩ := hargs
      simpa [decode, hop, Instr.opcode, decodeB, Instr.wf] using hwf
    | write d0 d1 d2 d3 =>
      obtain ⟨hres, rfl, rfl, rfl, rfl⟩ := hargs
      simp [decode, hop, Instr.opcode, decodeW, hres]
    | clkConfigure div cmp =>
      obtain ⟨hres, rfl, rfl⟩ := hargs
      simp [decode, hop, Instr.opcode, decodeK, hres]
    | read | available | flush | valid | destroy | clkAwait | clkStop =>
      simp [decode, hop, Instr.opcode, decodeN, show w.extractLsb' 0 40 = 0 from hargs]

/-- The decoder and the encoder are inverse to each other on the well-formed commands. -/
theorem decode_eq_ok_iff_encode (w : CmdWord) (i : Instr) :
    decode w = .ok i ↔ i.wf = true ∧ encode i = w := by
  rw [decode_eq_ok_iff, encode_eq_iff]

/-- No bit of an encoding is dropped (30_encoding.md R60 to R66). -/
theorem decode_encode (i : Instr) (h : i.wf = true) : decode (encode i) = .ok i :=
  (decode_eq_ok_iff_encode _ i).2 ⟨h, rfl⟩

/-- The decoder reads a command from a number iff the number's word decodes to it. -/
theorem decodeTableWord_eq_some_iff {nbits w : Nat} {i : Instr} :
    decodeTableWord nbits w = some i ↔ decode (BitVec.ofNat 48 (w % 2 ^ nbits)) = .ok i := by
  unfold decodeTableWord
  cases decode (BitVec.ofNat 48 (w % 2 ^ nbits)) <;> simp [Except.toOption]

/-- Settles O11: the word of a command has the command's fields, and its number has 48 bits. -/
theorem decodeInvertsEncode : Obligations.DecodeInvertsEncode := by
  unfold Obligations.DecodeInvertsEncode
  intro i hwf
  refine ⟨decode_encode i hwf, ?_⟩
  have hword : BitVec.ofNat 48 ((encode i).toNat % 2 ^ 48) = encode i := by
    rw [Nat.mod_eq_of_lt (encode i).isLt, BitVec.ofNat_toNat, BitVec.setWidth_eq]
  rw [decodeTableWord_eq_some_iff, hword, decode_encode i hwf]

/-- Settles O12: decode answers a command only for the command's own word. -/
theorem encodeInvertsDecode : Obligations.EncodeInvertsDecode := by
  unfold Obligations.EncodeInvertsDecode
  intro w i h
  exact ((decode_eq_ok_iff_encode w i).1 h).symm

/-! ## The opcode map -/

/-- A word spells a row iff it matches under the row's mask and, for BEGIN, its parity mode is not reserved. -/
theorem OpcodeRow.spells_iff (r : OpcodeRow) (w : CmdWord) :
    r.spells w = true ↔
      w &&& r.mask = r.pattern ∧ (r.mnemonic = "BEGIN" → w.extractLsb' 32 2 ≠ 3) := by
  simp [OpcodeRow.spells, imp_iff_not_or]

/-- A word that spells a row of the opcode map decodes to a command with the row's mnemonic. -/
theorem decode_of_spells {w : CmdWord} {r : OpcodeRow} (hr : r ∈ opcodeRows) (hw : r.spells w = true) :
    ∃ i, decode w = .ok i ∧ i.mnemonic = r.mnemonic := by
  obtain ⟨hmask, hpar⟩ := (r.spells_iff w).1 hw
  have field := fun a n => field_of_and_eq hmask (a := a) (n := n)
  suffices ∃ i : Instr, (i.wf = true ∧ opField w = i.opcode ∧ i.OperandsIn w) ∧ i.mnemonic = r.mnemonic by
    simpa only [decode_eq_ok_iff] using this
  simp only [opcodeRows, List.cons_append, List.nil_append, List.mem_cons, List.not_mem_nil, or_false] at hr
  rcases hr with rfl | rfl | rfl | rfl | rfl | rfl | rfl | rfl | rfl | rfl | rfl
  · exact ⟨.construct _ _ _ _ _,
      ⟨rfl, field 40 8 (by decide), field 33 7 (by decide), rfl, rfl, rfl, rfl, rfl⟩, rfl⟩
  · have hwf : Instr.wf (.begin (w.extractLsb' 0 32) (w.extractLsb' 32 2) (w.extractLsb' 34 6)) = true := by
      simpa [Instr.wf] using hpar rfl
    exact ⟨.begin _ _ _, ⟨hwf, field 40 8 (by decide), rfl, rfl, rfl⟩, rfl⟩
  · exact ⟨.write _ _ _ _,
      ⟨rfl, field 40 8 (by decide), field 32 8 (by decide), rfl, rfl, rfl, rfl⟩, rfl⟩
  · exact ⟨.read, ⟨rfl, field 40 8 (by decide), field 0 40 (by decide)⟩, rfl⟩
  · exact ⟨.available, ⟨rfl, field 40 8 (by decide), field 0 40 (by decide)⟩, rfl⟩
  · exact ⟨.flush, ⟨rfl, field 40 8 (by decide), field 0 40 (by decide)⟩, rfl⟩
  · exact ⟨.valid, ⟨rfl, field 40 8 (by decide), field 0 40 (by decide)⟩, rfl⟩
  · exact ⟨.destroy, ⟨rfl, field 40 8 (by decide), field 0 40 (by decide)⟩, rfl⟩
  · exact ⟨.clkConfigure _ _, ⟨rfl, field 40 8 (by decide), field 32 8 (by decide), rfl, rfl⟩, rfl⟩
  · exact ⟨.clkAwait, ⟨rfl, field 40 8 (by decide), field 0 40 (by decide)⟩, rfl⟩
  · exact ⟨.clkStop, ⟨rfl, field 40 8 (by decide), field 0 40 (by decide)⟩, rfl⟩

/-- The word of every well-formed command spells the command's row. -/
theorem encode_spells_row (i : Instr) : Laws.Spelled.Statement i := by
  cases i with
  | construct p0 p1 p2 p3 inv => exact Laws.Spelled.construct p0 p1 p2 p3 inv
  | begin rate par stop => exact Laws.Spelled.begin rate par stop
  | write d0 d1 d2 d3 => exact Laws.Spelled.write d0 d1 d2 d3
  | read => exact Laws.Spelled.read
  | available => exact Laws.Spelled.available
  | flush => exact Laws.Spelled.flush
  | valid => exact Laws.Spelled.valid
  | destroy => exact Laws.Spelled.destroy
  | clkConfigure div cmp => exact Laws.Spelled.clkConfigure div cmp
  | clkAwait => exact Laws.Spelled.clkAwait
  | clkStop => exact Laws.Spelled.clkStop

/-- A word that spells a row has the row's opcode. -/
theorem opField_of_spells {w : CmdWord} {r : OpcodeRow} (hr : r ∈ opcodeRows) (hw : r.spells w = true) :
    opField w = opField r.pattern := by
  obtain ⟨hmask, -⟩ := (r.spells_iff w).1 hw
  have hfull : ∀ r ∈ opcodeRows, r.mask.extractLsb' 40 8 = BitVec.allOnes 8 := by decide
  exact field_of_and_eq hmask (hfull r hr)

/-- The rows of the opcode map have different opcodes, so they are disjoint (30_encoding.md R66). -/
theorem eq_of_spells {w : CmdWord} {r r' : OpcodeRow} (hr : r ∈ opcodeRows) (hr' : r' ∈ opcodeRows)
    (hw : r.spells w = true) (hw' : r'.spells w = true) : r = r' := by
  have hnodup : (opcodeRows.map fun r => opField r.pattern).Nodup := by decide
  refine List.inj_on_of_nodup_map hnodup hr hr' ?_
  rw [← opField_of_spells hr hw, ← opField_of_spells hr' hw']

/-- Settles O13: a legal word is the word of a command, which spells its row; a row's mask leaves the opcode
and the reserved bits. -/
theorem legalWordsAreTheRowsOfTheMap : Obligations.LegalWordsAreTheRowsOfTheMap := by
  unfold Obligations.LegalWordsAreTheRowsOfTheMap
  refine ⟨fun w m => ⟨?_, ?_⟩, fun w r hr r' hr' hw hw' => eq_of_spells hr hr' hw hw', fun w i h => ?_⟩
  · rintro ⟨i, hd, rfl⟩
    obtain ⟨hwf, rfl⟩ := (decode_eq_ok_iff_encode w i).1 hd
    exact encode_spells_row i hwf
  · rintro ⟨r, hr, rfl, hw⟩
    exact decode_of_spells hr hw
  · obtain ⟨-, -, hargs⟩ := (decode_eq_ok_iff w i).1 h
    cases i with
    | construct p0 p1 p2 p3 inv =>
      obtain ⟨-, rfl, rfl, rfl, rfl, rfl⟩ := hargs
      exact ⟨rfl, rfl, rfl, rfl, rfl⟩
    | begin rate par stop =>
      obtain ⟨rfl, rfl, rfl⟩ := hargs
      exact ⟨rfl, rfl, rfl⟩
    | write d0 d1 d2 d3 =>
      obtain ⟨-, rfl, rfl, rfl, rfl⟩ := hargs
      exact ⟨rfl, rfl, rfl, rfl⟩
    | clkConfigure div cmp =>
      obtain ⟨-, rfl, rfl⟩ := hargs
      exact ⟨rfl, rfl⟩
    | read | available | flush | valid | destroy | clkAwait | clkStop => exact hargs

/-- Settles O14: each worked word is the word of its command. -/
theorem workedEncodingsAreRead : Obligations.WorkedEncodingsAreRead := by
  unfold Obligations.WorkedEncodingsAreRead
  exact ⟨decode_encode (.construct 2 3 4 5 false) rfl, decode_encode (.construct 2 3 4 5 true) rfl,
    decode_encode (.begin 100000 0 1) rfl, decode_encode (.begin 100000 1 2) rfl,
    decode_encode (.begin 100000 2 1) rfl, decode_encode (.write 0x55 0xAA 0x00 0xFF) rfl,
    decode_encode .read rfl, decode_encode (.clkConfigure 8 20) rfl,
    decode_encode .clkAwait rfl, decode_encode .clkStop rfl⟩

/-! ## Illegal words -/

/-- Which words are illegal, format by format (30_encoding.md R69). -/
theorem decode_eq_error_iff (w : CmdWord) : (∃ e, decode w = .error e) ↔
    (opField w ∉ assignedOpcodes ∨
      (opField w = 0x01 ∧ w.extractLsb' 33 7 ≠ 0) ∨
      (opField w = 0x02 ∧ w.extractLsb' 32 2 = 3) ∨
      ((opField w = 0x03 ∨ opField w = 0x10) ∧ w.extractLsb' 32 8 ≠ 0) ∨
      (opField w ∈ formatNOpcodes ∧ w.extractLsb' 0 40 ≠ 0)) := by
  cases decodesBy w with
  | formatC hop hd =>
    rw [hd, decodeC, check_eq_error_iff]
    simp [hop, assignedOpcodes, formatNOpcodes]
  | formatB hop hd =>
    rw [hd, decodeB_eq, check_eq_error_iff]
    simp [hop, assignedOpcodes, formatNOpcodes]
  | formatW hop hd =>
    rw [hd, decodeW, check_eq_error_iff]
    simp [hop, assignedOpcodes, formatNOpcodes]
  | formatK hop hd =>
    rw [hd, decodeK, check_eq_error_iff]
    simp [hop, assignedOpcodes, formatNOpcodes]
  | formatN i hop hi hd =>
    have hapart : ∀ op ∈ formatNOpcodes,
        op ∈ assignedOpcodes ∧ op ≠ 0x01#8 ∧ op ≠ 0x02#8 ∧ op ≠ 0x03#8 ∧ op ≠ 0x10#8 := by decide
    rw [hd, decodeN, check_eq_error_iff]
    simp [hop, hi, hapart i.opcode hi]
  | unassigned hop hd =>
    simp [hd, hop]

end Sys2Proof
end

section
/-! PROOFS. The command port: acceptance of a word, and the step that runs it or faults on it (30_encoding.md
R69, R74). -/

namespace Sys2Proof.Machine

variable {s : State}

/-- SEQ has a step at the admission of an accepted command. -/
theorem State.Accepted.seqEnabled (h : s.Accepted) : s.seqEnabled = true := by
  simp [State.seqEnabled_iff, h.busy, h.pos, h.fault, Pos.isAwait]

/-- An accepted illegal word faults, and does nothing else (30_encoding.md R69). -/
theorem State.Accepted.illegalCommand_eq (h : s.Accepted) : s.illegalCommand = { s with fault := 1 } := by
  rw [State.illegalCommand, if_pos h.pos, State.raiseFault_eq h.fault]
  rfl

/-- Settles O15: the checks of the formats, and the admission of a word that passes none. -/
theorem illegalWordsFault : Obligations.IllegalWordsFault := by
  unfold Obligations.IllegalWordsFault
  refine ⟨decode_eq_error_iff, fun s e h hd => ?_⟩
  have he := h.seqEnabled
  constructor
  · simp [State.turn, State.seqTurn, he, hd, h.illegalCommand_eq]
  · simp [State.turn, State.microTurn_of_illegal he hd, h.illegalCommand_eq]

/-! ## The command port -/

/-- A presented word is accepted (30_encoding.md R74). -/
theorem State.present_accepted (s : State) (w : CmdWord) : (s.present w).Accepted := ⟨rfl, rfl, rfl⟩

/-- Settles O8: a presented word is accepted with nothing scheduled, so SEQ's turn on it comes next. -/
theorem storedWordIsRunNext : Obligations.StoredWordIsRunNext := by
  unfold Obligations.StoredWordIsRunNext
  intro s nbits w i h
  have hd : decode (s.withFetchWord nbits w).cmd = .ok i := decodeTableWord_eq_some_iff.1 h
  have hacc : (s.withFetchWord nbits w).Accepted := s.present_accepted _
  obtain ⟨-, -, hrun⟩ := stepRunsTheDecodedCommand _ i hd hacc.seqEnabled
  exact ⟨hd, hacc, hrun rfl, rfl⟩

/-- What an open port is (30_encoding.md R74). -/
theorem State.hostEnabled_iff (s : State) : s.hostEnabled = true ↔ s.busy = false ∧ s.fault = 0 := by
  simp [State.hostEnabled]

/-- An open port accepts the host's next word (30_encoding.md R74). -/
theorem State.hostTurn_command {w : CmdWord} {rest : List HostAct} (he : s.hostEnabled = true)
    (hh : s.host = .command w :: rest) : s.hostTurn = { s.accept w with host := rest } := by
  simp [State.hostTurn, he, hh]

/-- Between commands the host may write `IE` (10_state.md R21, 20_memory.md R59). -/
theorem State.hostTurn_setIe {b : Bool} {rest : List HostAct} (he : s.hostEnabled = true)
    (hh : s.host = .setIe b :: rest) : s.hostTurn = { s with ie := b, host := rest } := by
  simp [State.hostTurn, he, hh]

/-- A closed port accepts nothing (30_encoding.md R74). -/
theorem State.hostTurn_of_closed (h : s.busy = true ∨ s.fault ≠ 0) : s.hostTurn = s := by
  have hne : ¬s.hostEnabled = true := by
    rw [State.hostEnabled_iff]
    rintro ⟨hb, hf⟩
    rcases h with h | h
    · exact absurd (hb.symm.trans h) (by decide)
    · exact h hf
  exact if_neg hne

/-- Settles O9: HOST's turn at an open and at a closed port. -/
theorem hostPresentsOnlyToAnOpenPort : Obligations.HostPresentsOnlyToAnOpenPort := by
  unfold Obligations.HostPresentsOnlyToAnOpenPort
  intro s hu
  have hstep : step s = .next s.unscheduled.hostTurn := by rw [step_eq_turn_unscheduled, hu]; rfl
  rw [hstep]
  refine ⟨fun w rest hh hb hf => ?_, fun b rest hh hb hf => ?_, fun hclosed => ?_⟩
  · exact congrArg _ (State.hostTurn_command ((State.hostEnabled_iff _).2 ⟨hb, hf⟩) hh)
  · exact congrArg _ (State.hostTurn_setIe ((State.hostEnabled_iff _).2 ⟨hb, hf⟩) hh)
  · exact congrArg _ (State.hostTurn_of_closed hclosed)

end Sys2Proof.Machine
end

section
/-! PROOFS. TMR's input clocks (40_clock.md R84 to R86, R88): how far a phase is from its next match. -/

namespace Sys2Proof.Machine

variable {t : Timer}

/-! ## Phases of a timer that can match -/

/-- A timer that can match, within the bounds of its phase (10_state.md R31b, 40_clock.md R85). -/
structure Timer.Counting (t : Timer) : Prop where
  canMatch : t.canMatch = true
  pre_lt : t.pre.toNat < t.div.toNat
  cnt_lt : t.cnt.toNat < t.cmp.toNat

/-- How many clocks lead from a phase to its next match: those to the next counter tick, and a divider's
worth for each tick between that one and the match (40_clock.md R84, R88). -/
def Timer.clocksToMatch (t : Timer) : Nat :=
  (t.div.toNat - t.pre.toNat) + (t.cmp.toNat - 1 - t.cnt.toNat) * t.div.toNat

/-- A clock does not change whether the match event can come (40_clock.md R84). -/
@[simp] theorem Timer.clk_canMatch (t : Timer) : t.clk.canMatch = t.canMatch := by
  obtain ⟨hrun, hdiv, hcmp, -⟩ := t.clk_keeps
  simp only [Timer.canMatch, hrun, hdiv, hcmp]

/-- A clock keeps a phase within its bounds. -/
theorem Timer.Counting.clk (h : t.Counting) : t.clk.Counting := by
  obtain ⟨hrun, hdiv, hcmp⟩ := t.canMatch_iff.1 h.canMatch
  obtain ⟨-, hdiv', hcmp', -⟩ := t.clk_keeps
  exact
    { canMatch := t.clk_canMatch.trans h.canMatch
      pre_lt := hdiv' ▸ Timer.pre_clk_lt (fun _ _ => h.pre_lt) hrun hdiv
      cnt_lt := hcmp' ▸ Timer.cnt_clk_lt (fun _ _ => h.cnt_lt) hrun hcmp }

/-- The next match is at least one clock away. -/
theorem Timer.Counting.clocksToMatch_pos (h : t.Counting) : 1 ≤ t.clocksToMatch := by
  have := h.pre_lt
  unfold Timer.clocksToMatch
  omega

/-- The next match is at most one bit period away (70_reset_and_hazards.md R208). -/
theorem Timer.Counting.clocksToMatch_le (h : t.Counting) :
    t.clocksToMatch ≤ t.div.toNat * t.cmp.toNat := by
  have := h.cnt_lt
  calc t.clocksToMatch
      ≤ t.div.toNat + (t.cmp.toNat - 1) * t.div.toNat :=
        Nat.add_le_add (Nat.sub_le _ _) (Nat.mul_le_mul_right _ (Nat.sub_le _ _))
    _ = (t.cmp.toNat - 1 + 1) * t.div.toNat := by ring
    _ = t.div.toNat * t.cmp.toNat := by rw [Nat.sub_add_cancel (by omega), Nat.mul_comm]

/-- A clock inside a prescaler period counts the prescaler (40_clock.md R84). -/
theorem Timer.Counting.clk_of_prescale (h : t.Counting) (hlast : t.pre.toNat + 1 ≠ t.div.toNat) :
    t.clk = { t with pre := t.pre + 1 } := by
  obtain ⟨hrun, hdiv, -⟩ := t.canMatch_iff.1 h.canMatch
  rw [Timer.clk, if_pos hrun, if_neg hdiv, if_neg hlast]

/-- The last clock of a prescaler period counts a tick, unless that tick is the match (40_clock.md R84). -/
theorem Timer.Counting.clk_of_tick (h : t.Counting) (hlast : t.pre.toNat + 1 = t.div.toNat)
    (hmatch : t.cnt.toNat + 1 ≠ t.cmp.toNat) : t.clk = { t with pre := 0, cnt := t.cnt + 1 } := by
  obtain ⟨hrun, hdiv, -⟩ := t.canMatch_iff.1 h.canMatch
  rw [Timer.clk, if_pos hrun, if_neg hdiv, if_pos hlast, if_neg (by simp [Timer.tickMatches, hmatch])]

/-- The last clock of the last prescaler period is the match event (40_clock.md R84, R85). -/
theorem Timer.Counting.clk_of_match (h : t.Counting) (hlast : t.pre.toNat + 1 = t.div.toNat)
    (hmatch : t.cnt.toNat + 1 = t.cmp.toNat) : t.clk = t.matchEvent := by
  obtain ⟨hrun, hdiv, hcmp⟩ := t.canMatch_iff.1 h.canMatch
  have htick : t.tickMatches = true := by
    simp only [Timer.tickMatches, Bool.and_eq_true, bne_iff_ne, beq_iff_eq]
    exact ⟨hcmp, hmatch⟩
  rw [Timer.clk, if_pos hrun, if_neg hdiv, if_pos hlast, if_pos htick, Timer.matchEvent]

/-- All a clock of a timer that can match does: the match event, where that is one clock away; else it
comes one clock nearer to the same event, with the flag as it was (40_clock.md R84). -/
theorem Timer.Counting.clk_cases (h : t.Counting) :
    (t.clocksToMatch = 1 ∧ t.clk = t.matchEvent) ∨
    (t.clocksToMatch = t.clk.clocksToMatch + 1 ∧ t.clk.matchEvent = t.matchEvent ∧
      t.clk.ocf = t.ocf) := by
  have hpre := h.pre_lt
  have hcnt := h.cnt_lt
  by_cases hlast : t.pre.toNat + 1 = t.div.toNat
  · by_cases hmatch : t.cnt.toNat + 1 = t.cmp.toNat
    · have hticks : t.cmp.toNat - 1 - t.cnt.toNat = 0 := by omega
      refine .inl ⟨?_, h.clk_of_match hlast hmatch⟩
      rw [Timer.clocksToMatch, hticks]
      omega
    · have hcnt' : (t.cnt + 1).toNat = t.cnt.toNat + 1 := by bv_omega
      have hpre' : (0 : BitVec 16).toNat = 0 := rfl
      have hticks : t.cmp.toNat - 1 - t.cnt.toNat = (t.cmp.toNat - 1 - (t.cnt.toNat + 1)) + 1 := by omega
      rw [h.clk_of_tick hlast hmatch]
      refine .inr ⟨?_, rfl, rfl⟩
      simp only [Timer.clocksToMatch, hcnt', hticks, hpre', Nat.succ_mul]
      omega
  · have hpre' : (t.pre + 1).toNat = t.pre.toNat + 1 := by bv_omega
    rw [h.clk_of_prescale hlast]
    refine .inr ⟨?_, rfl, rfl⟩
    simp only [Timer.clocksToMatch, hpre']
    omega

/-- The input clocks lead to the match event, and set the flag nowhere before (40_clock.md R84, R85). -/
theorem Timer.Counting.iterate_clk (h : t.Counting) :
    Timer.clk^[t.clocksToMatch] t = t.matchEvent ∧
      ∀ m, m < t.clocksToMatch → (Timer.clk^[m] t).ocf = t.ocf := by
  induction hn : t.clocksToMatch generalizing t with
  | zero => exact absurd h.clocksToMatch_pos (by omega)
  | succ n ih =>
    rcases h.clk_cases with ⟨hone, hclk⟩ | ⟨hnear, hevent, hocf⟩
    · obtain rfl : n = 0 := by omega
      refine ⟨hclk, fun m hm => ?_⟩
      obtain rfl : m = 0 := by omega
      rfl
    · obtain ⟨hmatch, hflag⟩ := ih h.clk (by omega)
      refine ⟨hmatch.trans hevent, fun m hm => ?_⟩
      cases m with
      | zero => rfl
      | succ m => exact (hflag m (by omega)).trans hocf

/-- Settles O27: every clock brings the phase one clock nearer to its match event. -/
theorem inputClocksReachTheMatchEvent : Obligations.InputClocksReachTheMatchEvent := by
  unfold Obligations.InputClocksReachTheMatchEvent
  intro t hcan hpre hcnt
  have h : t.Counting := ⟨hcan, hpre, hcnt⟩
  obtain ⟨hmatch, hflag⟩ := h.iterate_clk
  exact ⟨t.clocksToMatch, h.clocksToMatch_pos, h.clocksToMatch_le, rfl, hmatch, rfl, hflag⟩

/-! ## Timers that never match -/

/-- No number of clocks changes the mode or the parameters (40_clock.md R84). -/
theorem Timer.iterate_clk_keeps (t : Timer) (n : Nat) :
    (Timer.clk^[n] t).run = t.run ∧ (Timer.clk^[n] t).div = t.div ∧ (Timer.clk^[n] t).cmp = t.cmp := by
  induction n generalizing t with
  | zero => exact ⟨rfl, rfl, rfl⟩
  | succ n ih =>
    obtain ⟨hrun, hdiv, hcmp, -⟩ := t.clk_keeps
    obtain ⟨hrun', hdiv', hcmp'⟩ := ih t.clk
    exact ⟨hrun'.trans hrun, hdiv'.trans hdiv, hcmp'.trans hcmp⟩

/-- A timer that cannot match keeps its flag at a clock (40_clock.md R86). -/
theorem Timer.clk_ocf_of_not_canMatch (h : t.canMatch = false) : t.clk.ocf = t.ocf := by
  have hno : t.clkMatches = false := Bool.eq_false_iff.2 fun hm => by
    simp [Timer.canMatch_of_clkMatches hm] at h
  rw [Timer.clk_ocf, hno, Bool.or_false]

/-- A timer that cannot match never sets its flag, and never can match (40_clock.md R83, R86). -/
theorem Timer.iterate_clk_of_not_canMatch (h : t.canMatch = false) (n : Nat) :
    (Timer.clk^[n] t).ocf = t.ocf ∧ (Timer.clk^[n] t).canMatch = false := by
  induction n generalizing t with
  | zero => exact ⟨rfl, h⟩
  | succ n ih =>
    obtain ⟨hocf, hcan⟩ := ih (t.clk_canMatch.trans h)
    exact ⟨hocf.trans (Timer.clk_ocf_of_not_canMatch h), hcan⟩

/-- The fixed configuration of an allowed platform has a nonzero divider and a nonzero compare value
(40_clock.md R90, 00_scope.md R7). -/
theorem Config.fixed_ne_zero {c : Config} (h : c.ok = true) : c.divFixed ≠ 0 ∧ c.cmpFixed ≠ 0 := by
  simp only [Config.ok, Bool.and_eq_true, Bool.or_eq_true, beq_iff_eq, bne_iff_ne, and_assoc] at h
  obtain ⟨hdiv, hcmp, -⟩ := h
  refine ⟨hdiv, ?_⟩
  rcases hcmp with hcmp | hcmp <;> rw [hcmp] <;> decide

/-- Settles O29: a zero divider or compare value excludes every match; the fixed configuration has neither. -/
theorem matchlessTimerNeverMatches : Obligations.MatchlessTimerNeverMatches := by
  unfold Obligations.MatchlessTimerNeverMatches
  refine ⟨fun t n hrun hzero => ?_, fun s hok => ?_⟩
  · have hcan : t.canMatch = false := by rcases hzero with h | h <;> simp [Timer.canMatch, h]
    obtain ⟨hrun', -⟩ := t.iterate_clk_keeps n
    exact ⟨hrun'.trans hrun, Timer.iterate_clk_of_not_canMatch hcan n⟩
  · obtain ⟨hdiv, hcmp⟩ := Config.fixed_ne_zero hok
    exact (Timer.canMatch_iff _).2 ⟨rfl, hdiv, hcmp⟩

end Sys2Proof.Machine
end

section
/-! PROOFS. The commands of the clock (40_clock.md R81 to R83): from the admission, or from the wait, to the
completion or to the wait. -/

namespace Sys2Proof.Machine

variable {s t : State} {i : Instr}

/-! ## A command's first and last micro-steps as SEQ runs them -/

/-- SEQ takes a micro-step that it has. -/
theorem runSeq_of_enabled (m : State → State) (n : Nat) (h : s.seqEnabled = true) :
    runSeq m (n + 1) s = runSeq m n (m s) := by rw [runSeq_succ, if_pos h]

/-- An accepted command whose checks pass runs from the first position of its body (60_exceptions.md R162). -/
theorem State.Accepted.exec_eq (h : s.Accepted) (ha : admission s i = none) :
    exec i s = .next (runSeq (micro i) 31 (s.goto (firstPos i))) := by
  have hadm : micro i s = s.goto (firstPos i) := by
    rw [micro_adm h.pos, State.admitOrFault, ha]
  rw [exec_eq_runSeq, seqFuel, runSeq_of_enabled _ _ h.seqEnabled, hadm]

/-- SEQ's run ends at the completion (30_encoding.md R75). -/
theorem runSeq_done (n : Nat) (hb : s.busy = true) (hf : s.fault = 0) (hp : s.pos = .done) :
    runSeq (micro i) (n + 1) s = s.completeWith (resultOf s.res i) := by
  have he : s.seqEnabled = true := by
    simp [State.seqEnabled_iff, hb, hf, hp, Pos.isAwait]
  rw [runSeq_of_enabled _ _ he, micro_done hp]
  exact runSeq_of_not_enabled _ _ rfl

/-- A micro-step that leads to the completion is SEQ's last but one. -/
theorem runSeq_last_line (n : Nat) (he : s.seqEnabled = true) (hm : micro i s = t) (hb : t.busy = true)
    (hf : t.fault = 0) (hp : t.pos = .done) :
    runSeq (micro i) (n + 2) s = t.completeWith (resultOf t.res i) := by
  rw [runSeq_of_enabled _ _ he, hm, runSeq_done n hb hf hp]

/-- An accepted command whose checks pass and whose body is one line, no wait, completes after that line. -/
theorem State.Accepted.exec_one_line (h : s.Accepted) (ha : admission s i = none)
    (hw : (firstPos i).isAwait = false) (hm : micro i (s.goto (firstPos i)) = t) (hb : t.busy = true)
    (hf : t.fault = 0) (hp : t.pos = .done) : exec i s = .next (t.completeWith (resultOf t.res i)) := by
  have hbody : firstPos i ≠ .idle := by cases i <;> nofun
  have he : (s.goto (firstPos i)).seqEnabled = true :=
    (State.seqEnabled_iff _).2 ⟨h.busy, h.fault, hbody, by simp [hw]⟩
  rw [h.exec_eq ha, runSeq_last_line 29 he hm hb hf hp]

/-- SEQ has no step at a wait with the flag clear (40_clock.md R82). -/
theorem State.seqEnabled_of_wait (hw : s.pos.isAwait = true) (ho : s.timer.ocf = false) :
    s.seqEnabled = false := by
  simp [State.seqEnabled, hw, ho]

/-! ## CLK_CONFIGURE -/

/-- Settles O24: one line between the admission and the completion; the example's first match is
8 · 20 clocks away. -/
theorem clkConfigureProgramsAndStarts : Obligations.ClkConfigureProgramsAndStarts := by
  unfold Obligations.ClkConfigureProgramsAndStarts
  obtain ⟨hmatch, hflag⟩ :=
    Timer.Counting.iterate_clk (t := ⟨true, 8, 20, 0, 0, false⟩) ⟨by decide, by decide, by decide⟩
  refine ⟨fun s div cmp h => ?_, by decide, hflag 159 (by decide), congrArg Timer.ocf hmatch⟩
  exact h.exec_one_line (i := .clkConfigure div cmp) rfl rfl rfl h.busy h.fault rfl

/-! ## CLK_STOP -/

/-- A stopped timer does not count (40_clock.md R83, R84). -/
theorem Timer.clk_of_stopped {t : Timer} (h : t.run = false) : t.clk = t := by
  simp [Timer.clk, h]

/-- A stopped timer cannot match (40_clock.md R83, R85). -/
theorem Timer.canMatch_of_stopped {t : Timer} (h : t.run = false) : t.canMatch = false := by
  simp [Timer.canMatch, h]

/-- Settles O25: one line between the admission and the completion; a stopped timer does not count. -/
theorem clkStopStopsCounting : Obligations.ClkStopStopsCounting := by
  unfold Obligations.ClkStopStopsCounting
  refine ⟨fun s h => ?_, fun t hrun => ⟨?_, Timer.clk_of_stopped hrun, Timer.canMatch_of_stopped hrun⟩,
    by decide⟩
  · exact h.exec_one_line (i := .clkStop) rfl rfl rfl h.busy h.fault rfl
  · rw [← hrun]

/-! ## CLK_AWAIT and the waits -/

/-- CLK_AWAIT, accepted or at its wait, runs from its wait with fuel to complete (40_clock.md R82). -/
theorem exec_clkAwait_from_wait (h : s.Accepted ∨ (s.busy = true ∧ s.fault = 0 ∧ s.pos = .clkAwait)) :
    ∃ n, exec .clkAwait s = .next (runSeq (micro .clkAwait) (n + 2) (s.goto .clkAwait)) := by
  rcases h with h | ⟨-, -, hp⟩
  · exact ⟨29, h.exec_eq rfl⟩
  · exact ⟨30, by rw [exec_eq_runSeq, State.goto_eq_self hp]; rfl⟩

/-- Settles O26: the wait leads to the completion with the flag set, and has no step with it clear. -/
theorem clkAwaitWaitsForTheFlag : Obligations.ClkAwaitWaitsForTheFlag := by
  unfold Obligations.ClkAwaitWaitsForTheFlag
  refine ⟨fun s h => ?_, by decide⟩
  obtain ⟨n, hrun⟩ := exec_clkAwait_from_wait h
  obtain ⟨hb, hf⟩ : s.busy = true ∧ s.fault = 0 := by
    rcases h with h | ⟨hb, hf, -⟩
    · exact ⟨h.busy, h.fault⟩
    · exact ⟨hb, hf⟩
  rw [hrun]
  refine ⟨fun ho => congrArg _ ?_, fun ho => congrArg _ ?_⟩
  · have he : (s.goto .clkAwait).seqEnabled = true :=
      (State.seqEnabled_iff _).2 ⟨hb, hf, nofun, fun _ => ho⟩
    have hline := State.awaitTick_eq (s := s.goto .clkAwait) ho .done
    exact runSeq_last_line (i := .clkAwait) n he hline hb hf rfl
  · exact runSeq_of_not_enabled _ _ (State.seqEnabled_of_wait rfl ho)

/-- Settles O50: at a wait with the flag clear SEQ has no step. -/
theorem waitHoldsWhileTheFlagIsClear : Obligations.WaitHoldsWhileTheFlagIsClear := by
  unfold Obligations.WaitHoldsWhileTheFlagIsClear
  intro s i _ hw ho
  have he := State.seqEnabled_of_wait hw ho
  refine ⟨?_, ?_, congrArg _ (State.microTurn_of_not_enabled he)⟩
  · rw [exec_eq_runSeq, runSeq_of_not_enabled _ _ he]
  · simp [State.turn, State.seqTurn, he]

end Sys2Proof.Machine
end

section
/-! PROOFS. CONSTRUCT, BEGIN, DESTROY (41_lifecycle.md R101 to R107): commands without a wait, from the
admission to the completion. -/

namespace Sys2Proof.Machine

variable {s t : State} {i : Instr}

/-! ## A command without a wait, as SEQ runs it -/

/-- An accepted command that fails a check faults, and does nothing else (60_exceptions.md R162, R163). -/
theorem State.Accepted.exec_of_fault (h : s.Accepted) {c : FaultCode} (ha : admission s i = some c) :
    exec i s = .next { s with fault := c.bits } := by
  have hadm : micro i s = { s with fault := c.bits } := by
    rw [micro_adm h.pos, State.admitOrFault, ha]
    exact State.raiseFault_eq h.fault c
  rw [exec_eq_runSeq, seqFuel, runSeq_of_enabled _ _ h.seqEnabled, hadm,
    runSeq_of_not_enabled _ _ (State.seqEnabled_of_fault c.bits_ne_zero)]

/-- The commands with a wait are WRITE and CLK_AWAIT (40_clock.md R82, 42_write.md R139). -/
theorem not_isAwait_of_fits {p : Pos} (hi : i.mnemonic ∉ ["WRITE", "CLK_AWAIT"]) (hp : p.fits i = true) :
    p.isAwait = false := by
  cases p with
  | write | clkAwait => cases i <;> cases hp; simp [Instr.mnemonic] at hi
  | idle | adm | construct | begin | destroy | clkConfigure | clkStop | done => rfl

/-- A completed command stays completed: none of its micro-steps starts at `idle`. -/
theorem micro_iterate_of_idle (hp : s.pos = .idle) (k : Nat) : (micro i)^[k] s = s :=
  Function.iterate_fixed (micro_of_not_fits (by rw [hp]; cases i <;> rfl)) k

/-- SEQ takes the `k` micro-steps that lead from inside the body of a command without a wait to its
completion, and then the completion. -/
theorem runSeq_body (hi : i.mnemonic ∉ ["WRITE", "CLK_AWAIT"]) (k n : Nat) (hb : s.busy = true)
    (hf : s.fault = 0) (hfits : s.pos.fits i = true) (hadm : s.pos ≠ .adm)
    (hdone : ((micro i)^[k] s).pos = .done) :
    runSeq (micro i) (k + (n + 1)) s =
      ((micro i)^[k] s).completeWith (resultOf ((micro i)^[k] s).res i) := by
  induction k generalizing s with
  | zero => rw [Nat.zero_add]; exact runSeq_done n hb hf hdone
  | succ k ih =>
    have hidle : s.pos ≠ .idle := by
      intro hp
      rw [micro_iterate_of_idle hp, hp] at hdone
      cases hdone
    have hbody : s.pos ≠ .done := by
      intro hp
      rw [Function.iterate_succ_apply, micro_done hp, micro_iterate_of_idle rfl] at hdone
      cases hdone
    have hwait : s.pos.isAwait = false := not_isAwait_of_fits hi hfits
    have he : s.seqEnabled = true := (State.seqEnabled_iff s).2 ⟨hb, hf, hidle, by simp [hwait]⟩
    obtain ⟨hb', hf', -, -, hadm'⟩ := micro_body i s hidle hadm hbody
    rw [Nat.succ_add, runSeq_of_enabled _ _ he]
    exact ih (hb'.trans hb) (hf'.trans hf) (leadsTo_micro_body hfits hadm hbody hwait).fits hadm' hdone

/-- An accepted command whose checks pass and whose body is `k` lines without a wait, from `s` to `t`, completes
after these lines. -/
theorem State.Accepted.exec_body (h : s.Accepted) (ha : admission s i = none)
    (hi : i.mnemonic ∉ ["WRITE", "CLK_AWAIT"]) {k : Nat} (hk : k ≤ 30)
    (hbody : (micro i)^[k] (s.goto (firstPos i)) = t.goto .done) :
    exec i s = .next (t.completeWith (resultOf t.res i)) := by
  have hadm : (s.goto (firstPos i)).pos ≠ .adm := by cases i <;> nofun
  have hrun := runSeq_body (s := s.goto (firstPos i)) hi k (30 - k) h.busy h.fault (leadsTo_firstPos i).fits
    hadm (congrArg State.pos hbody)
  rw [show k + (30 - k + 1) = 31 by omega, hbody] at hrun
  rw [h.exec_eq ha, hrun]
  rfl

/-! ## BEGIN -/

/-- BEGIN's four lines, in order (41_lifecycle.md R104). -/
theorem iterate_microBegin (s : State) (rate : BitVec 32) (par : BitVec 2) (stop : BitVec 6) :
    (micro (.begin rate par stop))^[4] (s.goto (.begin .storeParity)) =
      { s.clockStart with pmode := par, stopb := stop, cfgSet := true, pos := .done } := rfl

/-- Settles O35: four lines between the admission and the completion; the reserved parity mode is refused
before the lifecycle. -/
theorem beginStoresTheConfiguration : Obligations.BeginStoresTheConfiguration := by
  unfold Obligations.BeginStoresTheConfiguration
  refine fun s rate par stop h => ⟨fun hpar hc => ?_, fun hpar => ?_, fun hpar hc => ?_⟩
  · have ha : admission s (.begin rate par stop) = none := (if_neg hpar).trans (if_pos hc)
    exact h.exec_body (t := { s.clockStart with pmode := par, stopb := stop, cfgSet := true }) ha
      (by simp [Instr.mnemonic]) (by decide) (iterate_microBegin s rate par stop)
  · exact h.exec_of_fault (c := .illegalCmd) (if_pos hpar)
  · exact h.exec_of_fault (c := .notConstructed) ((if_neg hpar).trans (if_neg (by simp [hc])))

/-- No micro-step of BEGIN reads the rate, nor does its admission (41_lifecycle.md R105). -/
theorem microBegin_rate (rate rate' : BitVec 32) (par : BitVec 2) (stop : BitVec 6) :
    microBegin rate par stop = microBegin rate' par stop := rfl

/-- Settles O36: the two commands have the same micro-steps. -/
theorem bitRateIsInert : Obligations.BitRateIsInert := by
  unfold Obligations.BitRateIsInert
  intro s rate rate' par stop
  simp only [exec, execBegin, microBegin_rate rate rate']

/-! ## DESTROY -/

/-- DESTROY's three lines, in order (41_lifecycle.md R107). -/
theorem iterate_microDestroy (s : State) :
    (micro .destroy)^[3] (s.goto (.destroy .stopClock)) =
      ({ s.clockStop with cfgSet := false, constructed := false } : State).goto .done := rfl

/-- Settles O37: three lines between the admission and the completion, none of which writes a pin. -/
theorem destroyEndsTheInstance : Obligations.DestroyEndsTheInstance := by
  unfold Obligations.DestroyEndsTheInstance
  refine fun s h => ⟨fun hc => ?_, fun hc => ?_⟩
  · exact ⟨_, h.exec_body (if_pos hc) (by decide) (by decide) (iterate_microDestroy s), rfl⟩
  · exact h.exec_of_fault (c := .notConstructed) (if_neg (by simp [hc]))

/-! ## CONSTRUCT, run whole -/

/-- CONSTRUCT's two lines for one channel: the latch, then the mode (41_lifecycle.md R102). -/
def State.connect (b : Level) (s : State) (j : Fin 4) : State := (s.pinWrite j b).pinMode j

/-- Connecting channels writes the port files only. -/
theorem State.foldl_connect_eq (b : Level) (l : List (Fin 4)) (s : State) :
    l.foldl (State.connect b) s =
      { s with
        portData := (l.foldl (State.connect b) s).portData
        portMode := (l.foldl (State.connect b) s).portMode } := by
  induction l generalizing s with
  | nil => rfl
  | cons j l ih => rw [List.foldl_cons, ih]; rfl

/-- Connecting channels gives their latches the level and puts their pins in output mode, and reaches no
other channel. -/
theorem State.Placed.foldl_connect {px py : Fin 4 → Nat} (h : s.Placed px py) (hdata : s.portData.wf = true)
    (hmode : s.portMode.wf = true) (b : Level) (l : List (Fin 4)) (j : Fin 4) :
    (l.foldl (State.connect b) s).txd j = (if j ∈ l then b else s.txd j) ∧
      (l.foldl (State.connect b) s).oe j = (if j ∈ l then true else s.oe j) := by
  induction l generalizing s with
  | nil => exact ⟨rfl, rfl⟩
  | cons k l ih =>
    have hk : (s.connect b k).Placed px py := h.congr (fun _ => rfl) rfl
    have htxd : (s.connect b k).txd j = if k = j then b else s.txd j := h.txd_pinWrite hdata k j b
    have hoe : (s.connect b k).oe j = if k = j then true else s.oe j := h.oe_pinMode hmode k j
    obtain ⟨htxd', hoe'⟩ := ih hk (PortFile.wf_drive hdata ..) (PortFile.wf_drive hmode ..)
    rw [List.foldl_cons, htxd', hoe', htxd, hoe]
    by_cases hl : j ∈ l <;> simp [hl, eq_comm]

/-- Connecting channels leaves every port bit of no channel alone (20_memory.md R42, R43). -/
theorem State.foldl_connect_foreign (hdata : s.portData.wf = true) (hmode : s.portMode.wf = true) (b : Level)
    (l : List (Fin 4)) {port bit : Nat} (ho : ∀ j, ¬s.ownsBit j port bit) :
    ((l.foldl (State.connect b) s).portData.read port).testBit bit = (s.portData.read port).testBit bit ∧
      ((l.foldl (State.connect b) s).portMode.read port).testBit bit =
        (s.portMode.read port).testBit bit := by
  induction l generalizing s with
  | nil => exact ⟨rfl, rfl⟩
  | cons k l ih =>
    obtain ⟨hdata', hmode'⟩ :=
      ih (s := s.connect b k) (PortFile.wf_drive hdata ..) (PortFile.wf_drive hmode ..) ho
    rw [List.foldl_cons, hdata', hmode']
    exact ⟨(PortFile.testBit_drive hdata ..).trans (if_neg (ho k)),
      (PortFile.testBit_drive hmode ..).trans (if_neg (ho k))⟩

/-- CONSTRUCT's eight lines for the pins (41_lifecycle.md R101). -/
def State.connectAll (b : Level) (s : State) : State := [0, 1, 2, 3].foldl (State.connect b) s

/-- Every latch has the level, and every pin is in output mode. -/
theorem State.Placed.connectAll {px py : Fin 4 → Nat} (h : s.Placed px py) (hdata : s.portData.wf = true)
    (hmode : s.portMode.wf = true) (b : Level) (j : Fin 4) :
    (s.connectAll b).txd j = b ∧ (s.connectAll b).oe j = true := by
  have hj : j ∈ ([0, 1, 2, 3] : List (Fin 4)) := by fin_cases j <;> simp
  obtain ⟨htxd, hoe⟩ := h.foldl_connect hdata hmode b [0, 1, 2, 3] j
  exact ⟨htxd.trans (if_pos hj), hoe.trans (if_pos hj)⟩

/-- Connecting the channels writes the port files only. -/
theorem State.connectAll_eq (s : State) (b : Level) :
    s.connectAll b =
      { s with portData := (s.connectAll b).portData, portMode := (s.connectAll b).portMode } :=
  State.foldl_connect_eq b [0, 1, 2, 3] s

/-- Connecting the channels leaves every port bit of no channel alone (20_memory.md R42, R43). -/
theorem State.connectAll_foreign (hdata : s.portData.wf = true) (hmode : s.portMode.wf = true) (b : Level)
    {port bit : Nat} (ho : ∀ j, ¬s.ownsBit j port bit) :
    ((s.connectAll b).portData.read port).testBit bit = (s.portData.read port).testBit bit ∧
      ((s.connectAll b).portMode.read port).testBit bit = (s.portMode.read port).testBit bit :=
  State.foldl_connect_foreign hdata hmode b [0, 1, 2, 3] ho

/-- What CONSTRUCT's lines before the pins leave: the records bound and the polarity stored
(41_lifecycle.md R101). -/
def State.bindChannels (s : State) (pins : Lanes PinId) (inv : Bool) : State :=
  { s with ch := .ofFn fun j => channelOf s.cfg (pins.get j), inv := inv }

/-- What CONSTRUCT's body leaves (41_lifecycle.md R101). -/
def State.afterConstruct (s : State) (pins : Lanes PinId) (inv : Bool) : State :=
  { ((s.bindChannels pins inv).connectAll (idleLevel inv)).clockStart with
    cfgSet := false, constructed := true }

/-- The five lines that bind the records and store the polarity. -/
theorem iterate_bindChannels (s : State) (p0 p1 p2 p3 : PinId) (inv : Bool) :
    (micro (.construct p0 p1 p2 p3 inv))^[5] (s.goto (.construct (.bind 0))) =
      (s.bindChannels ⟨p0, p1, p2, p3⟩ inv).goto (.construct (.drive 0)) := rfl

/-- The two lines of a channel before the last. -/
theorem iterate_connect (s : State) {j k : Fin 4} (hk : nextLane j = some k) (p0 p1 p2 p3 : PinId)
    (inv : Bool) : (micro (.construct p0 p1 p2 p3 inv))^[2] (s.goto (.construct (.drive j))) =
      (s.connect (idleLevel s.inv) j).goto (.construct (.drive k)) := by
  simp only [Function.iterate_succ_apply, Function.iterate_zero_apply, micro, microConstruct, State.goto_pos,
    hk]
  rfl

/-- The two lines of the last channel. -/
theorem iterate_connect_last (s : State) {j : Fin 4} (hj : nextLane j = none) (p0 p1 p2 p3 : PinId)
    (inv : Bool) : (micro (.construct p0 p1 p2 p3 inv))^[2] (s.goto (.construct (.drive j))) =
      (s.connect (idleLevel s.inv) j).goto (.construct .clockStart) := by
  simp only [Function.iterate_succ_apply, Function.iterate_zero_apply, micro, microConstruct, State.goto_pos,
    hj]
  rfl

/-- The three lines that start the clock and set the flags. -/
theorem iterate_startInstance (s : State) (p0 p1 p2 p3 : PinId) (inv : Bool) :
    (micro (.construct p0 p1 p2 p3 inv))^[3] (s.goto (.construct .clockStart)) =
      ({ s.clockStart with cfgSet := false, constructed := true } : State).goto .done := rfl

/-- CONSTRUCT's sixteen lines, in order. -/
theorem iterate_microConstruct (s : State) (p0 p1 p2 p3 : PinId) (inv : Bool) :
    (micro (.construct p0 p1 p2 p3 inv))^[3 + 2 + 2 + 2 + 2 + 5] (s.goto (.construct (.bind 0))) =
      (s.afterConstruct ⟨p0, p1, p2, p3⟩ inv).goto .done := by
  simp only [Function.iterate_add_apply]
  rw [iterate_bindChannels, iterate_connect (k := 1) _ rfl, iterate_connect (k := 2) _ rfl,
    iterate_connect (k := 3) _ rfl, iterate_connect_last _ rfl, iterate_startInstance]
  rfl

/-- Settles O33: the sixteen lines bind the channels at four different port bits and connect them one after
the other. -/
theorem constructBindsAndDrivesIdle : Obligations.ConstructBindsAndDrivesIdle := by
  unfold Obligations.ConstructBindsAndDrivesIdle
  intro s p0 p1 p2 p3 inv h hc hpins hcfg hdata hmode
  have hrun := h.exec_body (i := .construct p0 p1 p2 p3 inv) (by simp [admission, hc, hpins])
    (by simp [Instr.mnemonic]) (by decide) (iterate_microConstruct s p0 p1 p2 p3 inv)
  rw [State.afterConstruct] at hrun
  obtain ⟨px, py, hpl⟩ := State.placed_of_records (s := s.bindChannels ⟨p0, p1, p2, p3⟩ inv) hcfg hpins
    fun j => Lanes.get_ofFn _ j
  have hconn := hpl.connectAll hdata hmode (idleLevel inv)
  have hkeep := (s.bindChannels ⟨p0, p1, p2, p3⟩ inv).connectAll_eq (idleLevel inv)
  have hforeign := fun port bit => State.connectAll_foreign (s := s.bindChannels ⟨p0, p1, p2, p3⟩ inv)
    hdata hmode (idleLevel inv) (port := port) (bit := bit)
  generalize (s.bindChannels ⟨p0, p1, p2, p3⟩ inv).connectAll (idleLevel inv) = v
    at hrun hconn hkeep hforeign
  have hline : ∀ j, v.line j = .level (!inv) := fun j => by
    obtain ⟨htxd, hoe⟩ := hconn j
    rw [State.line, hoe, htxd, if_pos rfl]; rfl
  refine ⟨_, hrun, ?_, fun j => (hconn j).1, fun j => (hconn j).2, hline, fun port bit ho =>
    hforeign port bit fun j => ?_⟩
  · rw [hkeep]; rfl
  · rw [hkeep] at ho; exact ho j

/-! ## CONSTRUCT, line by line -/

/-- What a running CONSTRUCT has done before its position (41_lifecycle.md R101, R102). -/
theorem State.Inv.constructedUpTo (h : s.Inv) {p : ConstructPos} (hp : s.pos = .construct p)
    {p0 p1 p2 p3 : PinId} {inv : Bool} (hd : decode s.cmd = .ok (.construct p0 p1 p2 p3 inv)) :
    s.ConstructedUpTo ⟨p0, p1, p2, p3⟩ inv p := by
  obtain ⟨-, q0, q1, q2, q3, inv', hd', hu⟩ : s.Stands (.construct p) := hp ▸ h.at.stands
  rw [hd] at hd'
  cases hd'
  exact hu

/-- A micro-turn at a line of CONSTRUCT takes that line. -/
theorem State.Inv.microTurn_construct (h : s.Inv) {p : ConstructPos} (hp : s.pos = .construct p)
    {p0 p1 p2 p3 : PinId} {inv : Bool} (hd : decode s.cmd = .ok (.construct p0 p1 p2 p3 inv)) :
    s.microTurn = microConstruct p0 p1 p2 p3 inv (s.goto (.construct p)) := by
  have hb : s.busy = true := h.busyPos.2 (by simp [hp])
  have hf : s.fault = 0 := by
    by_contra hf
    obtain ⟨hadm, -⟩ := h.faultPos hf
    rw [hp] at hadm
    cases hadm
  have he : s.seqEnabled = true :=
    (State.seqEnabled_iff s).2 ⟨hb, hf, by simp [hp], by simp [hp, Pos.isAwait]⟩
  rw [State.microTurn_of_decode he hd, State.goto_eq_self hp]
  rfl

/-- Settles O34: the latch is driven before the mode is switched, which the invariant says at the mode
switch. -/
theorem constructShowsNoGlitch : Obligations.ConstructShowsNoGlitch := by
  unfold Obligations.ConstructShowsNoGlitch
  refine fun s p0 p1 p2 p3 inv h hd => ⟨fun j hp hz => ?_, fun j hp => ?_, fun p hp hne => ?_⟩
  all_goals
    refine ⟨s.microTurn, rfl, ?_⟩
    have hturn := h.microTurn_construct hp hd
  · have hpos : s.microTurn.pos = .construct (.mode j) := by rw [hturn]; rfl
    have hcmd : s.microTurn.cmd = s.cmd := by rw [hturn]; rfl
    have hu := h.microTurn.constructedUpTo hpos (by rw [hcmd, hd])
    have hoe : s.microTurn.oe j = false := by rw [hturn]; exact hz
    exact ⟨hpos, hu.latches j (by simp [ConstructPos.latchDriven]), by simp [State.line, hoe]⟩
  · have hu := h.constructedUpTo hp hd
    obtain ⟨px, py, hpl⟩ := hu.placed h.cfgOk fun _ => rfl
    have htxd : s.txd j = !inv := hu.latches j (by simp [ConstructPos.latchDriven])
    have hoe := hpl.oe_pinMode (PortFile.wf_of_inRange h.modeOk) j j
    rw [if_pos rfl] at hoe
    rw [hturn]
    exact ⟨rfl, htxd, (if_pos hoe).trans (congrArg Line.level htxd)⟩
  · rw [hturn]
    cases p with
    | mode j => exact absurd rfl (hne j)
    | bind | polarity | drive | clockStart | clearCfgSet | setConstructed => rfl

end Sys2Proof.Machine
end

section
/-! PROOFS. The frame on the wire (42_write.md R121 to R124, R134 to R137): what `Cells` is in the effective
sense, and the positions of WRITE counted. -/

namespace Sys2Proof.Machine

/-! ## The transmitted byte and its parity -/

/-- The set bits of a byte and of its complement make eight (42_write.md R122). -/
theorem popcount8_not (d : Byte) : popcount8 (~~~d) + popcount8 d = 8 := by
  have hneg : popcount8 (~~~d) = (List.range 8).countP fun k => !d.getLsbD k :=
    List.countP_congr fun k hk => by simp [List.mem_range.1 hk]
  have hlen := List.length_eq_countP_add_countP (fun k => d.getLsbD k) (l := List.range 8)
  simp only [Bool.not_eq_true, Bool.decide_eq_false, List.length_range] at hlen
  rw [hneg, popcount8]
  omega

/-- The count of the transmitted byte has the parity of the operand byte's (42_write.md R122). -/
theorem bitParity_txByte (inv : Bool) (d : Byte) : bitParity (txByte inv d) = bitParity d := by
  cases inv with
  | false => rfl
  | true =>
    have hnot := popcount8_not d
    have hmod : popcount8 (~~~d) % 2 = popcount8 d % 2 := by omega
    simp only [txByte, bitParity, if_true, hmod]

theorem bitParity_eq_decide (d : Byte) : bitParity d = decide (popcount8 d % 2 = 1) := rfl

/-- A bit of the transmitted byte is the operand's bit, complemented under inverted polarity (42_write.md
R121). -/
theorem getLsbD_txByte (inv : Bool) (d : Byte) {k : Nat} (hk : k < 8) :
    (txByte inv d).getLsbD k = (d.getLsbD k ^^ inv) := by
  cases inv <;> simp [txByte, hk]

/-- Settles O46: the complement of a byte, bit by bit, and its count of set bits. -/
theorem inversionComplementsTheByte : Obligations.InversionComplementsTheByte := by
  unfold Obligations.InversionComplementsTheByte
  refine fun d => ⟨rfl, ?_, BitVec.not_not, fun inv k hk => getLsbD_txByte inv d hk,
    fun inv => bitParity_txByte inv d⟩
  simp [txByte, BitVec.toNat_not]

/-! ## `Cells` -/

/-- How many cells a frame has (42_write.md R134). -/
theorem length_cells (c : Config) (data : Lanes Byte) (inv : Bool) (pmode : BitVec 2) (stopb : BitVec 6) :
    (cells c data inv pmode stopb).length =
      10 + (parityEnabled pmode).toNat + (twoStops stopb).toNat := by
  unfold cells
  cases parityEnabled pmode <;> cases twoStops stopb <;> rfl

/-- A column of `Cells` in the effective sense: start, the bits of the byte, the parity bit if there is one,
stop, a second stop if there is one (42_write.md R136). -/
theorem effective_cells (c : Config) (data : Lanes Byte) (inv : Bool) (pmode : BitVec 2) (stopb : BitVec 6)
    (i : Fin 4) : effective inv (cells c data inv pmode stopb) i =
      [false] ++ (List.range 8).map (data.get i).getLsbD ++
      (if parityEnabled pmode then [parLevel c inv pmode (bitParity (data.get i)) ^^ inv] else []) ++
      [true] ++ (if twoStops stopb then [true] else []) := by
  have hall : ∀ b, (allLanes b).get i = b := fun b => by fin_cases i <;> rfl
  have hstart : (startLevel inv ^^ inv) = false := by cases inv <;> rfl
  have hidle : (idleLevel inv ^^ inv) = true := by cases inv <;> rfl
  have hdata : ∀ b : Bool, (b ^^ inv ^^ inv) = b := fun b => by cases b <;> cases inv <;> rfl
  unfold effective cells
  cases parityEnabled pmode <;> cases twoStops stopb <;>
    simp [hall, hstart, hidle, hdata, Function.comp_def]

/-- The sum of the low `n` bits of a number (42_write.md R136). -/
theorem byteOfBits_testBit (n x : Nat) : byteOfBits ((List.range n).map x.testBit) = x % 2 ^ n := by
  induction n generalizing x with
  | zero => simp [byteOfBits, Nat.mod_one]
  | succ n ih =>
    have hhead : (x.testBit 0).toNat = x % 2 := by
      rw [Nat.testBit_zero]
      rcases Nat.mod_two_eq_zero_or_one x with h | h <;> simp [h]
    have htail : (x.testBit ∘ Nat.succ) = (x / 2).testBit := funext fun k => Nat.testBit_succ x k
    rw [List.range_succ_eq_map, List.map_cons, List.map_map, htail, byteOfBits, ih, hhead, Nat.pow_succ',
      Nat.mod_mul]

/-- The bits of a byte, least significant first, sum to the byte (42_write.md R136). -/
theorem byteOfBits_getLsbD (d : Byte) : byteOfBits ((List.range 8).map d.getLsbD) = d.toNat := by
  have hbits : d.getLsbD = d.toNat.testBit := funext fun _ => rfl
  rw [hbits, byteOfBits_testBit, Nat.mod_eq_of_lt d.isLt]

/-- Parity is enabled iff `PMODE` is not 0 (42_write.md R122). -/
theorem parityEnabled_iff (pmode : BitVec 2) : parityEnabled pmode = true ↔ pmode ≠ 0 := bne_iff_ne

theorem twoStops_iff (stopb : BitVec 6) : twoStops stopb = true ↔ 1 < stopb.toNat := decide_eq_true_iff

/-- The number that parity adds to a count, as the statements write it. -/
theorem toNat_parityEnabled (pmode : BitVec 2) :
    (parityEnabled pmode).toNat = if pmode ≠ 0 then 1 else 0 := by
  simp only [← parityEnabled_iff]
  exact Bool.cond_eq_ite ..

/-- The number that a second stop bit adds to a count, as the statements write it. -/
theorem toNat_twoStops (stopb : BitVec 6) : (twoStops stopb).toNat = if 1 < stopb.toNat then 1 else 0 := by
  simp only [← twoStops_iff]
  exact Bool.cond_eq_ite ..

/-- The parity cell in the effective sense, under both readings of R123. -/
theorem parLevel_effective (c : Config) (inv : Bool) (pmode : BitVec 2) (q : Bool) :
    (parLevel c inv pmode q ^^ inv) =
      if c.parFollowsInv then parityBit pmode q else parityBit pmode q ^^ inv := by
  unfold parLevel
  cases c.parFollowsInv <;> cases inv <;> simp

/-- Settles O44: a column of `Cells` in the effective sense is the frame of its byte. -/
theorem everyFrameDecodesToItsBytes : Obligations.EveryFrameDecodesToItsBytes := by
  unfold Obligations.EveryFrameDecodesToItsBytes
  intro c data inv pmode stopb i e parity
  have hlen : e.length = 10 + parity + if 1 < stopb.toNat then 1 else 0 := by
    simp only [e, effective, List.length_map, length_cells, toNat_parityEnabled, toNat_twoStops, parity]
  have he : e = false :: ((List.range 8).map (data.get i).getLsbD ++
      ((if parityEnabled pmode then [parLevel c inv pmode (bitParity (data.get i)) ^^ inv] else []) ++
      (true :: if twoStops stopb then [true] else []))) := by
    simp only [e, effective_cells, List.append_assoc, List.cons_append, List.nil_append]
  have hpar : parity = (parityEnabled pmode).toNat := (toNat_parityEnabled pmode).symm
  rw [parLevel_effective] at he
  refine ⟨by rw [he]; rfl, fun k hk => ?_, ?_, fun hf hp => ?_, fun hf hp => ?_, ?_, fun h2 => ?_, hlen⟩
  · rw [he, Nat.add_comm, List.getElem?_cons_succ, List.getElem?_append_left (by simpa using hk)]
    simp [hk]
  · rw [he, List.drop_succ_cons, List.drop_zero, List.take_left' (by simp), byteOfBits_getLsbD]
  · rw [he, hf, (parityEnabled_iff pmode).2 hp]; rfl
  · rw [he, hf, (parityEnabled_iff pmode).2 hp]; rfl
  · rw [he, hpar]
    cases parityEnabled pmode <;> rfl
  · rw [he, hpar, (twoStops_iff stopb).2 h2]
    cases parityEnabled pmode <;> rfl

/-- Settles O45: the parity bit makes up for the parity of the count; the parity cell is one cell. -/
theorem parityMakesTheTotalEvenOrOdd : Obligations.ParityMakesTheTotalEvenOrOdd := by
  unfold Obligations.ParityMakesTheTotalEvenOrOdd
  refine ⟨fun d => ?_, by decide, fun c data inv pmode stopb hp => ?_⟩
  · have heven : parityBit 1 (bitParity d) = bitParity d := rfl
    have hodd : parityBit 2 (bitParity d) = !bitParity d := rfl
    rw [heven, hodd, bitParity_eq_decide]
    rcases Nat.mod_two_eq_zero_or_one (popcount8 d) with h | h <;> simp [h] <;> omega
  · have hnone : parityEnabled 0 = false := rfl
    rw [length_cells, length_cells, (parityEnabled_iff pmode).2 hp, hnone]
    simp only [Bool.toNat_true, Bool.toNat_false]
    omega

/-- Settles O47: every cell is complemented, the parity cell where its level follows the polarity. -/
theorem invertedFrameIsTheComplement : Obligations.InvertedFrameIsTheComplement := by
  unfold Obligations.InvertedFrameIsTheComplement
  intro c data pmode stopb h
  have hlanes : ∀ b, Lanes.ofFn (fun i => !(allLanes b).get i) = allLanes !b := fun b => rfl
  have hpar : parityEnabled pmode = true → ∀ q, parLevel c true pmode q = !parLevel c false pmode q := by
    intro hp q
    have hf : c.parFollowsInv = true := h.resolve_right ((parityEnabled_iff pmode).1 hp)
    simp [parLevel, hf]
  unfold cells
  cases hp : parityEnabled pmode <;> cases twoStops stopb <;>
    simp [hlanes, startLevel, idleLevel, hpar, hp, Function.comp_def]

/-! ## The positions of WRITE counted -/

/-- A position of WRITE is an `await tick`. -/
def WritePos.waits (p : WritePos) : Bool := (Pos.write p).isAwait

/-- The pre-synchronisation is so many waits (42_write.md R140). -/
theorem count_preSteps (n : Nat) :
    (preSteps n).countP WritePos.waits = n ∧ (preSteps n).countP WritePos.writesPin = 0 := by
  induction n with
  | zero => exact ⟨rfl, rfl⟩
  | succ n ih =>
    obtain ⟨hwaits, hpins⟩ := ih
    rw [preSteps, List.countP_cons, List.countP_cons, hwaits, hpins]
    exact ⟨rfl, rfl⟩

/-- A slot is one wait and four pin writes (42_write.md R126). -/
theorem count_slotSteps (slot : Slot) :
    (slotSteps slot).countP WritePos.waits = 1 ∧ (slotSteps slot).countP WritePos.writesPin = 4 := ⟨rfl, rfl⟩

/-- The eight data slots (42_write.md R128). -/
theorem count_dataSteps :
    ((List.finRange 8).flatMap fun k => slotSteps (.bit k)).countP WritePos.waits = 8 ∧
      ((List.finRange 8).flatMap fun k => slotSteps (.bit k)).countP WritePos.writesPin = 32 := by
  simp only [List.countP_flatMap, Function.comp_def, count_slotSteps]
  decide

/-- How many waits and pin writes a WRITE has (42_write.md R134). -/
theorem count_writeSteps (c : Config) (pmode : BitVec 2) (stopb : BitVec 6) :
    (writeSteps c pmode stopb).countP WritePos.waits = waits c pmode stopb ∧
      (writeSteps c pmode stopb).countP WritePos.writesPin = 4 * (10 + (parityEnabled pmode).toNat) := by
  obtain ⟨hpre, hpre'⟩ := count_preSteps c.preSync
  obtain ⟨hdata, hdata'⟩ := count_dataSteps
  simp only [writeSteps, List.countP_append, hpre, hpre', hdata, hdata', count_slotSteps, waits]
  cases parityEnabled pmode <;> cases twoStops stopb <;>
    simp [WritePos.waits, WritePos.writesPin, Pos.isAwait, count_slotSteps]

/-- Settles O42: the counts of the list of positions, and of `Cells`. -/
theorem writeCountsOfWaitsPinWritesAndCells : Obligations.WriteCountsOfWaitsPinWritesAndCells := by
  unfold Obligations.WriteCountsOfWaitsPinWritesAndCells
  intro c pmode stopb parity second
  have hpar : parity = (parityEnabled pmode).toNat := (toNat_parityEnabled pmode).symm
  have hsec : second = (twoStops stopb).toNat := (toNat_twoStops stopb).symm
  obtain ⟨hwaits, hpins⟩ := count_writeSteps c pmode stopb
  rw [hpar, hsec]
  exact ⟨hwaits, hpins, fun data inv => length_cells c data inv pmode stopb⟩

end Sys2Proof.Machine
end

section
/-! PROOFS. Hangs (42_write.md R138, 60_exceptions.md R168): no agent but reset ends one. -/

namespace Sys2Proof.Machine

variable {s t : State}

/-- What a hang is: SEQ stands at a wait with the flag clear, and TMR has no match event (60_exceptions.md
R168). -/
theorem State.hung_iff (s : State) :
    s.hung = true ↔ s.busy = true ∧ s.fault = 0 ∧ s.pos.isAwait = true ∧ s.timer.ocf = false ∧
      s.matchEnabled = false := by
  simp [State.hung, State.waiting, and_assoc]

/-- What every turn but reset leaves of a hang: the port bits, the phase of the timer and the schedule may
change, but not whether the timer can match, nor the line of a channel. -/
structure State.HangGoesOn (s t : State) : Prop where
  keeps : t = { s with
    timer := t.timer, portData := t.portData, portMode := t.portMode, sched := t.sched }
  ocf : t.timer.ocf = s.timer.ocf
  canMatch : t.timer.canMatch = s.timer.canMatch
  lines : s.Inv → s.constructed = true → ∀ i, t.line i = s.line i

/-- A turn that changes nothing. -/
theorem State.HangGoesOn.unscheduled (s : State) : s.HangGoesOn s.unscheduled :=
  ⟨rfl, rfl, rfl, fun _ _ _ => rfl⟩

/-- A hang that goes on is a hang. -/
theorem State.HangGoesOn.hung (h : s.HangGoesOn t) (hs : s.hung = true) : t.hung = true := by
  have hlaw : t.slotOpen = s.slotOpen := by rw [h.keeps]; rfl
  have hmatch : t.matchEnabled = s.matchEnabled := by
    rw [State.matchEnabled, State.matchEnabled, h.canMatch, hlaw]
  rw [State.hung_iff] at hs ⊢
  rw [hmatch, h.ocf, h.keeps]
  exact hs

/-- A clock of a hang sets no flag: that would be a match that TMR has as a step (40_clock.md R84). -/
theorem State.HangGoesOn.tmrClk (hm : s.matchEnabled = false) : s.HangGoesOn s.unscheduled.tmrClk := by
  obtain ⟨hrun, hdiv, hcmp, -⟩ := s.unscheduled.tmrClk_keeps
  refine ⟨?_, ?_, ?_, fun _ _ i => ?_⟩
  · rw [State.tmrClk_eq]; rfl
  · by_contra hocf
    have he : s.unscheduled.matchEnabled = true := State.matchEnabled_of_tmrClk_ocf hocf
    rw [State.unscheduled_matchEnabled, hm] at he
    cases he
  · simp only [Timer.canMatch, hrun, hdiv, hcmp, State.unscheduled_timer]
  · rw [State.tmrClk_eq]; rfl

/-- A port change of ENV or the platform reaches no bit of a constructed block (20_memory.md R59). -/
theorem State.HangGoesOn.portAct {a : PortAct} (ha : s.unscheduled.portAct a = .next t) : s.HangGoesOn t := by
  obtain ⟨-, -, hch, hcases⟩ := State.portAct_cases ha
  have hforeign : s.constructed = true → ∀ i, ¬s.ownsBit i a.port a.bit := fun hc i =>
    State.not_ownsBit_of_hasChannel (s := s.unscheduled) hch (.inl hc)
  rcases hcases with ⟨-, rfl⟩ | ⟨-, rfl⟩
  · exact ⟨rfl, rfl, rfl, fun h hc i => State.line_congr
      (State.txd_drive_foreign (PortFile.wf_of_inRange h.dataOk) (hforeign hc i) _) rfl⟩
  · exact ⟨rfl, rfl, rfl, fun h hc i => State.line_congr rfl
      (State.oe_drive_foreign (PortFile.wf_of_inRange h.modeOk) (hforeign hc i) _)⟩

/-- No turn but reset ends a hang. -/
theorem State.Moves.hangGoesOn (h : s.Moves t) (hs : s.hung = true) (hrst : s.nextTurn ≠ .rst) :
    s.HangGoesOn t := by
  obtain ⟨hb, -, hw, ho, hm⟩ := s.hung_iff.1 hs
  cases h with
  | seq hu n =>
    have hrest : s.unscheduled.microTurn = s.unscheduled :=
      State.microTurn_of_not_enabled (State.seqEnabled_of_wait hw ho)
    rw [State.microTurn_iterate_fixed hrest]
    exact .unscheduled s
  | host => rw [State.hostTurn_of_closed (s := s.unscheduled) (.inl hb)]; exact .unscheduled s
  | clk => exact .tmrClk hm
  | matchEvent =>
    rw [State.tmrMatch_of_not_enabled (by rw [State.unscheduled_matchEnabled, hm]; decide)]
    exact .unscheduled s
  | port a hu t ha => exact .portAct ha
  | masked => exact .unscheduled s
  | rst hu => exact absurd hu hrst

/-- Settles O52: every turn but reset leaves the hang as it is. -/
theorem hangLastsUntilReset : Obligations.HangLastsUntilReset := by
  unfold Obligations.HangLastsUntilReset
  intro s t hs hstep hrst
  have h := (step_moves hstep).hangGoesOn hs hrst
  obtain ⟨hb, hf, -⟩ := t.hung_iff.1 (h.hung hs)
  refine ⟨h.hung hs, hb, hf, ?_, ?_, ?_, ?_, ?_, h.lines⟩ <;> rw [h.keeps]

end Sys2Proof.Machine
end

section
/-! PROOFS. The positions of WRITE in order (42_write.md R139). -/

namespace Sys2Proof.Machine

/-! ## Where a position leads -/

/-- Where the micro-step at a position of WRITE leads (42_write.md R139). -/
def WritePos.next (c : Config) (pmode : BitVec 2) (stopb : BitVec 6) : WritePos → Pos
  | .latch i => .write ((nextLane i).elim (afterLatch pmode) .latch)
  | .count i => .write ((nextLane i).elim .enter .count)
  | .enter => .write (afterEnter c)
  | .pre 0 => .write (.await .start)
  | .pre (n + 1) => .write (.pre n)
  | .await slot => .write (.drv slot 0)
  | .drv slot i => .write ((nextLane i).elim (afterSlot pmode slot) (.drv slot))
  | .t1 => .write (if twoStops stopb then .t2 else .leave)
  | .t2 => .write .leave
  | .leave => .done

/-- An enabled micro-step of WRITE leads there. -/
theorem microWrite_pos {s : State} {p : WritePos} (hp : s.pos = .write p) (he : s.seqEnabled = true)
    (d0 d1 d2 d3 : Byte) : (microWrite d0 d1 d2 d3 s).pos = p.next s.cfg s.pmode s.stopb := by
  obtain ⟨-, -, -, hwait⟩ := (State.seqEnabled_iff s).1 he
  rw [hp] at hwait
  cases p with
  | latch i => simp only [microWrite, hp, WritePos.next]; cases nextLane i <;> rfl
  | count i => simp only [microWrite, hp, WritePos.next]; cases nextLane i <;> rfl
  | drv slot i => simp only [microWrite, hp, WritePos.next]; cases nextLane i <;> rfl
  | enter | leave => simp only [microWrite, hp, WritePos.next, State.goto_pos]
  | pre n => cases n <;> simp only [microWrite, hp, WritePos.next, State.awaitTick_pos, hwait rfl, if_true]
  | await | t2 => simp only [microWrite, hp, WritePos.next, State.awaitTick_pos, hwait rfl, if_true]
  | t1 =>
    simp only [microWrite, hp, WritePos.next, State.awaitTick_pos, hwait rfl, if_true]
    split <;> rfl

/-! ## Lists of positions, each leading to the next -/

/-- The first position of a list, or `q` after its end. -/
def headOr (q : Pos) : List WritePos → Pos
  | [] => q
  | p :: _ => .write p

/-- Each position of the list leads to the next, and the last one to `q`. -/
def LeadThrough (c : Config) (pmode : BitVec 2) (stopb : BitVec 6) (q : Pos) : List WritePos → Prop
  | [] => True
  | p :: l => p.next c pmode stopb = headOr q l ∧ LeadThrough c pmode stopb q l

variable {c : Config} {pmode : BitVec 2} {stopb : BitVec 6} {q : Pos}

theorem headOr_append (l l' : List WritePos) : headOr q (l ++ l') = headOr (headOr q l') l := by
  cases l <;> rfl

/-- Lists joined where one ends and the other begins. -/
theorem LeadThrough.append {l l' : List WritePos} (h : LeadThrough c pmode stopb (headOr q l') l)
    (h' : LeadThrough c pmode stopb q l') : LeadThrough c pmode stopb q (l ++ l') := by
  induction l with
  | nil => exact h'
  | cons p l ih =>
    obtain ⟨hp, hl⟩ := h
    exact ⟨hp.trans (headOr_append l l').symm, ih hl⟩

/-- Inside such a list a position leads to the one that follows it. -/
theorem LeadThrough.next_eq {before after : List WritePos} {p : WritePos}
    (h : LeadThrough c pmode stopb q (before ++ p :: after)) :
    p.next c pmode stopb = headOr q after := by
  induction before with
  | nil => exact h.1
  | cons r before ih => exact ih h.2

/-- A slot: its wait, its four pin writes, and on to what follows the slot (42_write.md R126). -/
theorem leadThrough_slotSteps (slot : Slot) :
    LeadThrough c pmode stopb (.write (afterSlot pmode slot)) (slotSteps slot) :=
  ⟨rfl, rfl, rfl, rfl, rfl, trivial⟩

/-- The pre-synchronisation leads to the start slot (42_write.md R140). -/
theorem leadThrough_preSteps (n : Nat) : LeadThrough c pmode stopb (.write (.await .start)) (preSteps n) := by
  induction n with
  | zero => trivial
  | succ n ih => cases n <;> exact ⟨rfl, ih⟩

/-- The data slots, bit 0 first (42_write.md R128). -/
theorem leadThrough_dataSteps : LeadThrough c pmode stopb (.write (afterSlot pmode (.bit 7)))
    ((List.finRange 8).flatMap fun k => slotSteps (.bit k)) :=
  (leadThrough_slotSteps (.bit 0)).append <| (leadThrough_slotSteps (.bit 1)).append <|
  (leadThrough_slotSteps (.bit 2)).append <| (leadThrough_slotSteps (.bit 3)).append <|
  (leadThrough_slotSteps (.bit 4)).append <| (leadThrough_slotSteps (.bit 5)).append <|
  (leadThrough_slotSteps (.bit 6)).append <| (leadThrough_slotSteps (.bit 7)).append trivial

/-- `ENTER`, the pre-synchronisation and the start slot (42_write.md R139, R140). -/
theorem leadThrough_enter {l : List WritePos} (h : LeadThrough c pmode stopb q (slotSteps .start ++ l)) :
    LeadThrough c pmode stopb q ([.enter] ++ (preSteps c.preSync ++ (slotSteps .start ++ l))) := by
  have hpre : LeadThrough c pmode stopb (headOr q (slotSteps .start ++ l)) (preSteps c.preSync) :=
    leadThrough_preSteps c.preSync
  refine ⟨?_, hpre.append h⟩
  simp only [WritePos.next, afterEnter]
  cases c.preSync <;> rfl

/-- The list of R139: each position leads to the next, and `LEAVE` to `DONE`. -/
theorem leadThrough_writeSteps (c : Config) (pmode : BitVec 2) (stopb : BitVec 6) :
    LeadThrough c pmode stopb .done (writeSteps c pmode stopb) := by
  have hlatch : LeadThrough c pmode stopb (.write (afterLatch pmode)) [.latch 0, .latch 1, .latch 2, .latch 3] :=
    ⟨rfl, rfl, rfl, rfl, trivial⟩
  have hcount : LeadThrough c pmode stopb (.write .enter) [.count 0, .count 1, .count 2, .count 3] :=
    ⟨rfl, rfl, rfl, rfl, trivial⟩
  have hdata := leadThrough_dataSteps (c := c) (pmode := pmode) (stopb := stopb)
  have hstops : LeadThrough c pmode stopb .done ([.t1] ++ ((if twoStops stopb then [.t2] else []) ++ [.leave])) := by
    cases h2 : twoStops stopb <;> simp [LeadThrough, WritePos.next, headOr, h2]
  have hstop := (leadThrough_slotSteps .stop).append hstops
  simp only [writeSteps, List.append_assoc]
  cases hp : parityEnabled pmode with
  | false =>
    have hfirst : afterLatch pmode = .enter := by simp [afterLatch, hp]
    have hlast : afterSlot pmode (.bit 7) = .await .stop := by simp [afterSlot, hp]
    rw [hfirst] at hlatch
    rw [hlast] at hdata
    exact hlatch.append (leadThrough_enter ((leadThrough_slotSteps .start).append (hdata.append hstop)))
  | true =>
    have hfirst : afterLatch pmode = .count 0 := by simp [afterLatch, hp]
    have hlast : afterSlot pmode (.bit 7) = .await .par := by simp [afterSlot, hp]
    rw [hfirst] at hlatch
    rw [hlast] at hdata
    exact hlatch.append (hcount.append (leadThrough_enter ((leadThrough_slotSteps .start).append
      (hdata.append ((leadThrough_slotSteps .par).append hstop)))))

/-- The waits of the pre-synchronisation (42_write.md R140). -/
theorem mem_preSteps {m n : Nat} (h : n < m) : .pre n ∈ preSteps m := by
  induction m with
  | zero => omega
  | succ m ih =>
    rcases Nat.lt_succ_iff_lt_or_eq.1 h with hlt | rfl
    · exact List.mem_cons_of_mem _ (ih hlt)
    · exact List.mem_cons_self

/-- The positions of a slot that is taken are in the list (42_write.md R139). -/
theorem mem_writeSteps_of_mem_slotSteps {p : WritePos} {slot : Slot} (hp : p ∈ slotSteps slot)
    (h : (WritePos.await slot).taken c pmode stopb = true) : p ∈ writeSteps c pmode stopb := by
  simp only [writeSteps, List.mem_append]
  cases slot with
  | start => simp [hp]
  | bit k =>
    have hdata : p ∈ (List.finRange 8).flatMap fun k => slotSteps (.bit k) :=
      List.mem_flatMap.2 ⟨k, List.mem_finRange k, hp⟩
    simp only [hdata, true_or, or_true]
  | par => simp [show parityEnabled pmode = true from h, hp]
  | stop => simp [hp]

/-- The positions that are taken are in the list (42_write.md R139). -/
theorem mem_writeSteps_of_taken {p : WritePos} (h : p.taken c pmode stopb = true) :
    p ∈ writeSteps c pmode stopb := by
  cases p with
  | latch i => fin_cases i <;> simp [writeSteps]
  | count i =>
    have hpar : parityEnabled pmode = true := h
    fin_cases i <;> simp [writeSteps, hpar]
  | enter | t1 | leave => simp [writeSteps]
  | t2 => simp [writeSteps, show twoStops stopb = true from h]
  | pre n => simp [writeSteps, mem_preSteps (of_decide_eq_true h)]
  | await slot => exact mem_writeSteps_of_mem_slotSteps (slot := slot) (by simp [slotSteps]) h
  | drv slot i =>
    refine mem_writeSteps_of_mem_slotSteps (slot := slot) ?_ (by cases slot <;> exact h)
    fin_cases i <;> simp [slotSteps]

/-- Settles O41: a position that the invariant admits is one of the list, and leads to the next one. -/
theorem writeStepsThroughItsPositionsInOrder : Obligations.WriteStepsThroughItsPositionsInOrder := by
  unfold Obligations.WriteStepsThroughItsPositionsInOrder
  intro s d p h he hp hd
  obtain ⟨before, after, hlist⟩ := List.append_of_mem (mem_writeSteps_of_taken (h.taken p hp))
  have hlead := leadThrough_writeSteps s.cfg s.pmode s.stopb
  rw [hlist] at hlead
  refine ⟨before, after, hlist, ?_⟩
  rw [State.microTurn_of_decode he hd]
  refine (microWrite_pos hp he ..).trans (hlead.next_eq.trans ?_)
  cases after <;> rfl

end Sys2Proof.Machine
end

section
/-! PROOFS. WRITE as SEQ runs it (42_write.md R121 to R133, R139): from the admission to the first wait, from a
wait to the next, from the last wait to the completion. -/

namespace Sys2Proof.Machine

variable {s t : State} {i : Instr}

/-! ## SEQ's runs in pieces -/

/-- A run of SEQ is a run that goes on where it stopped. -/
theorem runSeq_add (m : State → State) (k n : Nat) (s : State) :
    runSeq m (k + n) s = runSeq m n (runSeq m k s) := by
  induction k generalizing s with
  | zero => rw [Nat.zero_add, runSeq_zero]
  | succ k ih =>
    cases he : s.seqEnabled with
    | true => rw [Nat.succ_add, runSeq_of_enabled _ _ he, runSeq_of_enabled _ _ he, ih]
    | false => simp only [runSeq_of_not_enabled _ _ he]

/-- Where SEQ runs to does not depend on how far it has run before: SEQ rests before the fuel is used up
(20_memory.md R51). -/
theorem exec_of_runSeq (hf : s.pos.fits i = true) (k : Nat) (h : runSeq (micro i) k s = t) :
    exec i s = exec i t := by
  have hrest := runSeq_rests seqFuel s hf s.stepsToRest_lt
  have hsame : runSeq (micro i) seqFuel t = runSeq (micro i) seqFuel s := by
    rw [← h, ← runSeq_add, Nat.add_comm, runSeq_add, runSeq_of_not_enabled _ _ hrest]
  rw [exec_eq_runSeq, exec_eq_runSeq, hsame]

/-- At a wait with the flag clear SEQ rests (40_clock.md R82). -/
theorem exec_of_wait (hw : s.pos.isAwait = true) (ho : s.timer.ocf = false) : exec i s = .next s := by
  rw [exec_eq_runSeq, runSeq_of_not_enabled _ _ (State.seqEnabled_of_wait hw ho)]

/-- A line of a command's body that is no wait. -/
def Pos.isLine (p : Pos) : Bool := p != .idle && p != .adm && p != .done && !p.isAwait

/-- SEQ takes the lines of a command's body that are no wait one after the other. -/
theorem runSeq_lines (k : Nat) (hb : s.busy = true) (hf : s.fault = 0)
    (hline : ∀ j, j < k → ((micro i)^[j] s).pos.isLine = true) : runSeq (micro i) k s = (micro i)^[k] s := by
  induction k generalizing s with
  | zero => rfl
  | succ k ih =>
    have hs := hline 0 (Nat.succ_pos k)
    simp only [Pos.isLine, Function.iterate_zero_apply, Bool.and_eq_true, bne_iff_ne, Bool.not_eq_true',
      and_assoc] at hs
    obtain ⟨hidle, hadm, hdone, hw⟩ := hs
    have he : s.seqEnabled = true := (State.seqEnabled_iff s).2 ⟨hb, hf, hidle, by simp [hw]⟩
    obtain ⟨hb', hf', -⟩ := micro_body i s hidle hadm hdone
    rw [runSeq_of_enabled _ _ he, Function.iterate_succ_apply]
    exact ih (hb'.trans hb) (hf'.trans hf) fun j hj => hline (j + 1) (Nat.succ_lt_succ hj)

/-! ## From the admission to the first wait -/

/-- What the `LATCH` lines leave: the transmitted bytes (42_write.md R121). -/
def State.latch (s : State) (d : Lanes Byte) : State := { s with txb := .ofFn fun j => txByte s.inv (d.get j) }

/-- What the `COUNT` lines leave: the parities of the counts of the transmitted bytes (42_write.md R122). -/
def State.count (s : State) : State := { s with q := .ofFn fun j => bitParity (s.txb.get j) }

/-- What the first three steps of WRITE leave (42_write.md R121, R122, R125). -/
def State.latched (s : State) (d : Lanes Byte) : State :=
  State.enterCritical (if parityEnabled s.pmode then (s.latch d).count else s.latch d)

/-- The four `LATCH` lines. -/
theorem runSeq_latch (hb : s.busy = true) (hf : s.fault = 0) (d : Lanes Byte) :
    runSeq (micro (.write d.l0 d.l1 d.l2 d.l3)) 4 (s.goto (.write (.latch 0))) =
      (s.latch d).goto (.write (afterLatch s.pmode)) :=
  runSeq_lines (s := s.goto (.write (.latch 0))) 4 hb hf (by intro j hj; interval_cases j <;> rfl)

/-- Where a line for a channel leads that is not the last. -/
theorem elim_nextLane {j k : Fin 4} (h : nextLane j = some k) (p : WritePos) (f : Fin 4 → WritePos) :
    (nextLane j).elim p f = f k := by rw [h]; rfl

/-- A `COUNT` line. -/
theorem micro_count (s : State) (j : Fin 4) (d : Lanes Byte) :
    micro (.write d.l0 d.l1 d.l2 d.l3) (s.goto (.write (.count j))) =
      State.goto { s with q := s.q.set j (bitParity (s.txb.get j)) }
        (.write ((nextLane j).elim .enter .count)) := by
  simp only [micro, microWrite, State.goto_pos]
  cases nextLane j <;> rfl

/-- The four `COUNT` lines. -/
theorem runSeq_count (hb : s.busy = true) (hf : s.fault = 0) (d : Lanes Byte) :
    runSeq (micro (.write d.l0 d.l1 d.l2 d.l3)) 4 (s.goto (.write (.count 0))) =
      s.count.goto (.write .enter) := by
  rw [runSeq_lines (s := s.goto (.write (.count 0))) 4 hb hf (by intro j hj; interval_cases j <;> rfl)]
  simp only [Function.iterate_succ_apply, Function.iterate_zero_apply]
  rw [micro_count, elim_nextLane (k := 1) rfl, micro_count, elim_nextLane (k := 2) rfl, micro_count,
    elim_nextLane (k := 3) rfl, micro_count]
  rfl

/-- `ENTER` leads to the first wait (42_write.md R139, R140). -/
theorem afterEnter_eq_firstWait (c : Config) : afterEnter c = firstWait c := by
  unfold afterEnter firstWait
  cases c.preSync <;> rfl

/-- `ENTER`. -/
theorem runSeq_enter (hb : s.busy = true) (hf : s.fault = 0) (d : Lanes Byte) :
    runSeq (micro (.write d.l0 d.l1 d.l2 d.l3)) 1 (s.goto (.write .enter)) =
      s.enterCritical.goto (.write (firstWait s.cfg)) := by
  rw [← afterEnter_eq_firstWait]
  exact runSeq_lines (s := s.goto (.write .enter)) 1 hb hf (by intro j hj; interval_cases j; rfl)

/-- The lines of WRITE before its first wait. -/
theorem runSeq_head (hb : s.busy = true) (hf : s.fault = 0) (d : Lanes Byte) :
    ∃ k, runSeq (micro (.write d.l0 d.l1 d.l2 d.l3)) k (s.goto (.write (.latch 0))) =
      (s.latched d).goto (.write (firstWait s.cfg)) := by
  have henter := runSeq_enter (s := s.latch d) hb hf d
  have henter' := runSeq_enter (s := (s.latch d).count) hb hf d
  cases hp : parityEnabled s.pmode with
  | false =>
    have hfirst : afterLatch s.pmode = .enter := by simp [afterLatch, hp]
    refine ⟨4 + 1, ?_⟩
    rw [runSeq_add, runSeq_latch hb hf, hfirst, henter, State.latched, hp]
    rfl
  | true =>
    have hfirst : afterLatch s.pmode = .count 0 := by simp [afterLatch, hp]
    refine ⟨4 + (4 + 1), ?_⟩
    rw [runSeq_add, runSeq_latch hb hf, hfirst, runSeq_add, runSeq_count (s := s.latch d) hb hf, henter',
      State.latched, hp]
    rfl

/-- An accepted WRITE whose checks pass comes to its first wait. -/
theorem State.Accepted.runSeq_write (h : s.Accepted) (hc : s.constructed = true) (hs : s.cfgSet = true)
    (d : Lanes Byte) : ∃ k, runSeq (micro (.write d.l0 d.l1 d.l2 d.l3)) k s =
      (s.latched d).goto (.write (firstWait s.cfg)) := by
  obtain ⟨k, hk⟩ := runSeq_head h.busy h.fault d
  have hadm : micro (.write d.l0 d.l1 d.l2 d.l3) s = s.goto (.write (.latch 0)) := by
    rw [micro_adm h.pos, State.admitOrFault, admission, if_pos hc, if_pos hs, firstPos]
  exact ⟨k + 1, by rw [runSeq_of_enabled _ _ h.seqEnabled, hadm, hk]⟩

/-- The first wait is one. -/
theorem isAwait_firstWait (c : Config) : (Pos.write (firstWait c)).isAwait = true := by
  unfold firstWait
  split <;> rfl

/-- What the first three steps leave, element by element. -/
theorem State.latched_eq (s : State) (d : Lanes Byte) : s.latched d =
    { s with
      txb := .ofFn fun j => txByte s.inv (d.get j), q := (s.latched d).q, ieSaved := s.ie, ie := false } := by
  unfold State.latched
  split <;> rfl

/-- With parity the counts of the transmitted bytes are stored (42_write.md R122). -/
theorem State.latched_q (hp : s.pmode ≠ 0) (d : Lanes Byte) (j : Fin 4) :
    (s.latched d).q.get j = bitParity (txByte s.inv (d.get j)) := by
  rw [State.latched, if_pos ((parityEnabled_iff _).2 hp)]
  simp [State.count, State.latch]

/-- Without parity they are not (42_write.md R122). -/
theorem State.latched_q_of_none (hp : s.pmode = 0) (d : Lanes Byte) : (s.latched d).q = s.q := by
  rw [State.latched, hp]
  rfl

/-- Settles O38: the admission, the four or eight lines of the bytes, and the critical section. -/
theorem writeLatchesAndEntersTheCriticalSection : Obligations.WriteLatchesAndEntersTheCriticalSection := by
  unfold Obligations.WriteLatchesAndEntersTheCriticalSection
  intro s d h hc hs hd
  obtain ⟨k, hk⟩ := h.runSeq_write hc hs d
  have hfits : s.pos.fits (.write d.l0 d.l1 d.l2 d.l3) = true := by rw [h.pos]; rfl
  have hexec := exec_of_runSeq hfits k hk
  have hcount : s.pmode ≠ 0 → ∀ j, (s.latched d).q.get j =
      decide (popcount8 ((s.latched d).txb.get j) % 2 = 1) := fun hp j => by
    rw [State.latched_q hp, State.latched_eq, Lanes.get_ofFn]
    rfl
  refine ⟨(s.latched d).goto (.write (firstWait s.cfg)), k, ?_, ?_, hcount, fun hp => s.latched_q_of_none hp d,
    fun ho => ?_⟩
  · rw [← hk, runSeq_eq_iterate k s hd]
  · rw [State.latched_eq]; rfl
  · rw [hexec, exec_of_wait (isAwait_firstWait s.cfg)]
    rw [State.latched_eq]; exact ho

end Sys2Proof.Machine
end

section
/-! PROOFS. The waits of WRITE as SEQ runs on from them (42_write.md R127 to R133, R140). -/

namespace Sys2Proof.Machine

variable {s t : State}

/-! ## The last waits -/

/-- A wait of WRITE with the flag set is passed (40_clock.md R82). -/
theorem State.seqEnabled_of_flag (hb : s.busy = true) (hf : s.fault = 0) (hw : s.pos.isAwait = true)
    (ho : s.timer.ocf = true) : s.seqEnabled = true := by
  refine (State.seqEnabled_iff s).2 ⟨hb, hf, ?_, fun _ => ho⟩
  intro hp
  rw [hp] at hw
  cases hw

/-- What a wait that is passed leaves, at the position it leads to (40_clock.md R82). -/
def State.ticked (s : State) (p : Pos) : State := { s with timer := { s.timer with ocf := false }, pos := p }

/-- A wait from which the micro-step leads to `q` lets SEQ run on from there. -/
theorem runSeq_wait {i : Instr} {q : Pos} (n : Nat) (he : s.seqEnabled = true) (ho : s.timer.ocf = true)
    (hm : micro i s = s.awaitTick q) : runSeq (micro i) (n + 1) s = runSeq (micro i) n (s.ticked q) := by
  rw [runSeq_of_enabled _ _ he, hm, State.awaitTick_eq ho]
  rfl

/-- A wait that leads to another wait: SEQ clears the flag and stands there. -/
theorem exec_wait_to_wait {i : Instr} {q : Pos} (hb : s.busy = true) (hf : s.fault = 0)
    (hw : s.pos.isAwait = true) (ho : s.timer.ocf = true) (hm : micro i s = s.awaitTick q)
    (hq : q.isAwait = true) : exec i s = .next (s.ticked q) := by
  have he := State.seqEnabled_of_flag hb hf hw ho
  rw [exec_eq_runSeq, seqFuel, runSeq_wait 31 he ho hm, runSeq_of_not_enabled]
  exact State.seqEnabled_of_wait hq rfl

/-- The wait that ends the last stop bit: the interrupts as they were, and the completion (42_write.md R132,
R133). -/
theorem exec_wait_to_leave {d : Lanes Byte} (hb : s.busy = true) (hf : s.fault = 0)
    (hw : s.pos.isAwait = true) (ho : s.timer.ocf = true)
    (hm : micro (.write d.l0 d.l1 d.l2 d.l3) s = s.awaitTick (.write .leave)) :
    exec (.write d.l0 d.l1 d.l2 d.l3) s = .next
      { s with
        timer := { s.timer with ocf := false }, ie := s.ieSaved, res := 1, busy := false, pos := .idle } := by
  have he := State.seqEnabled_of_flag hb hf hw ho
  have he' : (s.ticked (.write .leave)).seqEnabled = true :=
    (State.seqEnabled_iff _).2 ⟨hb, hf, nofun, nofun⟩
  have hline : micro (.write d.l0 d.l1 d.l2 d.l3) (s.ticked (.write .leave)) =
      (s.ticked (.write .leave)).leaveCritical.goto .done := rfl
  rw [exec_eq_runSeq, seqFuel, runSeq_wait 31 he ho hm, runSeq_last_line 29 he' hline hb hf rfl]
  rfl

/-- Settles O40: the waits of the stop bits, which write no pin. -/
theorem writeCompletesAfterTheStopBits : Obligations.WriteCompletesAfterTheStopBits := by
  unfold Obligations.WriteCompletesAfterTheStopBits
  intro s d hb hf ho
  have hstop : s.pos = .write .t1 → micro (.write d.l0 d.l1 d.l2 d.l3) s =
      s.awaitTick (if twoStops s.stopb then .write .t2 else .write .leave) := fun hp => by
    rw [← State.goto_eq_self hp]; rfl
  refine ⟨?_, fun hp h2 => ?_⟩
  · rintro (⟨hp, h1⟩ | hp)
    · refine exec_wait_to_leave hb hf (by rw [hp]; rfl) ho ?_
      rw [hstop hp, if_neg (by rw [twoStops_iff]; omega)]
    · refine exec_wait_to_leave hb hf (by rw [hp]; rfl) ho ?_
      rw [← State.goto_eq_self hp]; rfl
  · refine exec_wait_to_wait hb hf (by rw [hp]; rfl) ho ?_ rfl
    rw [hstop hp, if_pos ((twoStops_iff _).2 h2)]

/-! ## Slots -/

/-- Pin writes in a row, a level for each channel (42_write.md R126). -/
def State.pinWrites (f : Fin 4 → Level) (l : List (Fin 4)) (s : State) : State :=
  l.foldl (fun u j => u.pinWrite j (f j)) s

/-- Pin writes write the port data only (20_memory.md R42). -/
theorem State.pinWrites_eq (f : Fin 4 → Level) (l : List (Fin 4)) (s : State) :
    s.pinWrites f l = { s with portData := (s.pinWrites f l).portData } := by
  induction l generalizing s with
  | nil => rfl
  | cons k l ih => exact ih (s.pinWrite k (f k))

/-- Pin writes give their channels' latches the levels, and reach no other channel. -/
theorem State.Placed.txd_pinWrites {px py : Fin 4 → Nat} (h : s.Placed px py) (hw : s.portData.wf = true)
    (f : Fin 4 → Level) (l : List (Fin 4)) (j : Fin 4) :
    (s.pinWrites f l).txd j = if j ∈ l then f j else s.txd j := by
  induction l generalizing s with
  | nil => rfl
  | cons k l ih =>
    have hk : (s.pinWrite k (f k)).Placed px py := h.congr (fun _ => rfl) rfl
    refine (ih hk (PortFile.wf_drive hw ..)).trans ?_
    rw [h.txd_pinWrite hw]
    by_cases hjk : k = j
    · simp [hjk]
    · simp [hjk, Ne.symm hjk]

/-- Pin writes reach no port bit of another pin (20_memory.md R42). -/
theorem State.pinWrites_foreign (hw : s.portData.wf = true) (f : Fin 4 → Level) (l : List (Fin 4))
    {port bit : Nat} (ho : ∀ j, ¬s.ownsBit j port bit) :
    ((s.pinWrites f l).portData.read port).testBit bit = (s.portData.read port).testBit bit := by
  induction l generalizing s with
  | nil => rfl
  | cons k l ih =>
    refine (ih (s := s.pinWrite k (f k)) (PortFile.wf_drive hw ..) ho).trans ?_
    exact (PortFile.testBit_drive hw ..).trans (if_neg (ho k))

/-- A pin write of a slot. -/
theorem micro_drv (s : State) (slot : Slot) (j : Fin 4) (d : Lanes Byte) :
    micro (.write d.l0 d.l1 d.l2 d.l3) (s.goto (.write (.drv slot j))) =
      (s.pinWrite j (s.slotLevel slot j)).goto
        (.write ((nextLane j).elim (afterSlot s.pmode slot) (.drv slot))) := by
  simp only [micro, microWrite, State.goto_pos, State.drvSlot_eq]
  cases nextLane j <;> rfl

/-- The four pin writes of a slot (42_write.md R126 to R130). -/
theorem runSeq_drv (hb : s.busy = true) (hf : s.fault = 0) (slot : Slot) (d : Lanes Byte) :
    runSeq (micro (.write d.l0 d.l1 d.l2 d.l3)) 4 (s.goto (.write (.drv slot 0))) =
      (s.pinWrites (s.slotLevel slot) [0, 1, 2, 3]).goto (.write (afterSlot s.pmode slot)) := by
  rw [runSeq_lines (s := s.goto (.write (.drv slot 0))) 4 hb hf (by intro j hj; interval_cases j <;> rfl)]
  simp only [Function.iterate_succ_apply, Function.iterate_zero_apply]
  rw [micro_drv, elim_nextLane (k := 1) rfl, micro_drv, elim_nextLane (k := 2) rfl, micro_drv,
    elim_nextLane (k := 3) rfl, micro_drv]
  rfl

/-- A slot's last pin write leads to a wait (42_write.md R139). -/
theorem isAwait_afterSlot (pmode : BitVec 2) (slot : Slot) : (Pos.write (afterSlot pmode slot)).isAwait = true := by
  cases slot with
  | bit k => simp only [afterSlot]; split_ifs <;> rfl
  | start | par | stop => rfl

/-- What a slot leaves, from its wait with the flag set (42_write.md R126 to R130). -/
def State.slotDone (s : State) (slot : Slot) : State :=
  (s.pinWrites (s.slotLevel slot) [0, 1, 2, 3]).ticked (.write (afterSlot s.pmode slot))

/-- A slot, from its wait with the flag set to the next wait. -/
theorem exec_slot {slot : Slot} (hb : s.busy = true) (hf : s.fault = 0) (hp : s.pos = .write (.await slot))
    (ho : s.timer.ocf = true) (d : Lanes Byte) :
    exec (.write d.l0 d.l1 d.l2 d.l3) s = .next (s.slotDone slot) := by
  have he := State.seqEnabled_of_flag hb hf (by rw [hp]; rfl) ho
  have hm : micro (.write d.l0 d.l1 d.l2 d.l3) s = s.awaitTick (.write (.drv slot 0)) := by
    rw [← State.goto_eq_self hp]; rfl
  have hrun : runSeq (micro (.write d.l0 d.l1 d.l2 d.l3)) (4 + 1) s = s.slotDone slot := by
    rw [runSeq_wait 4 he ho hm]
    exact runSeq_drv (s := s.ticked (.write (.drv slot 0))) hb hf slot d
  rw [exec_of_runSeq (by rw [hp]; rfl) _ hrun]
  exact exec_of_wait (isAwait_afterSlot s.pmode slot) rfl

/-- A slot writes the flag, the port data and `POS`. -/
theorem State.slotDone_eq (s : State) (slot : Slot) : s.slotDone slot =
    { s with
      timer := { s.timer with ocf := false }, portData := (s.slotDone slot).portData
      pos := .write (afterSlot s.pmode slot) } := by
  unfold State.slotDone
  rw [State.pinWrites_eq]
  rfl

/-- A slot shows its levels on the four lines (42_write.md R127 to R130). -/
theorem State.Inv.line_slotDone (h : s.Inv) (hc : s.constructed = true) (slot : Slot) (j : Fin 4) :
    (s.slotDone slot).line j = .level (s.slotLevel slot j) := by
  obtain ⟨px, py, hpl⟩ := h.placed hc
  have hj : j ∈ ([0, 1, 2, 3] : List (Fin 4)) := by fin_cases j <;> simp
  have htxd : (s.slotDone slot).txd j = s.slotLevel slot j :=
    (hpl.txd_pinWrites (PortFile.wf_of_inRange h.dataOk) (s.slotLevel slot) _ j).trans (if_pos hj)
  have hoe : (s.slotDone slot).oe j = true := by
    rw [State.slotDone_eq]; exact h.outputs hc j
  rw [State.line, hoe, htxd, if_pos rfl]

/-- Inside a WRITE no fault stands, and `BUSY` is 1. -/
theorem State.Inv.busy_of_write (h : s.Inv) {p : WritePos} (hp : s.pos = .write p) :
    s.busy = true ∧ s.fault = 0 := by
  refine ⟨h.busyPos.2 (by simp [hp]), ?_⟩
  by_contra hf
  obtain ⟨hadm, -⟩ := h.faultPos hf
  rw [hp] at hadm
  cases hadm

/-- The parity bit of an allowed mode (42_write.md R123). -/
theorem parityBit_eq {pmode : BitVec 2} (h0 : pmode ≠ 0) (h3 : pmode ≠ 3) (q : Bool) :
    parityBit pmode q = if pmode = 1 then q else !q := by
  have h2 : pmode ≠ 1 → pmode = 2 := by revert h0 h3 pmode; decide
  unfold parityBit
  split
  · rfl
  · next h1 => rw [if_pos (h2 h1)]

/-- Settles O39: a slot's wait and its four pin writes; a wait of the pre-synchronisation leads to a wait. -/
theorem writeSlotDrivesTheFourLines : Obligations.WriteSlotDrivesTheFourLines := by
  unfold Obligations.WriteSlotDrivesTheFourLines
  refine ⟨fun s d slot h hp ho => ?_, fun s d n hb hf ho hp => ?_⟩
  · obtain ⟨hb, hf⟩ := h.busy_of_write hp
    obtain ⟨hc, hs⟩ := h.writing _ hp
    refine ⟨s.slotDone slot, exec_slot hb hf hp ho d, s.slotDone_eq slot, fun j => ?_, fun port bit hown => ?_⟩
    · rw [h.line_slotDone hc slot j]
      cases slot with
      | start | bit | stop => rfl
      | par =>
        have h0 : s.pmode ≠ 0 := (parityEnabled_iff _).1 (h.taken _ hp)
        rw [State.slotLevel, parLevel, parityBit_eq h0 (h.config hs).2]
    · exact State.pinWrites_foreign (PortFile.wf_of_inRange h.dataOk) _ _ hown
  · have hm : micro (.write d.l0 d.l1 d.l2 d.l3) s =
        s.awaitTick (.write (if n = 0 then .await .start else .pre (n - 1))) := by
      rw [← State.goto_eq_self hp]; cases n <;> rfl
    refine exec_wait_to_wait hb hf (by rw [hp]; rfl) ho hm ?_
    split <;> rfl

end Sys2Proof.Machine
end

section
/-! PROOFS. What a WRITE shows to the reference observer under the default schedule (42_write.md R135). -/

namespace Sys2Proof.Machine

variable {s t u : State} {d : Lanes Byte} {w w' : WritePos} {v v' : Lanes Level} {f : Bool}

/-! ## Steps and samples -/

theorem samples_succ (n : Nat) (h : step s = .next t) :
    samples (n + 1) s = (if s.nextIsMatch then [s.lines] else []) ++ samples n t := by
  rw [samples, h]

theorem run_succ (n : Nat) (h : step s = .next t) : core.run (n + 1) s = core.run n t := by
  have hcore : core.step s = .next t := h
  simp only [Host.Core.run, hcore]

/-- SEQ runs the command where it has a step and nothing is scheduled; that is no match event. -/
theorem step_of_enabled {i : Instr} (hs : s.sched = []) (he : s.seqEnabled = true) (hd : decode s.cmd = .ok i)
    (hx : exec i s = .next t) : step s = .next t ∧ s.nextIsMatch = false := by
  have hu : s.nextTurn = .seq := by simp [State.nextTurn, hs, State.defaultTurn, he]
  refine ⟨?_, by rw [State.nextIsMatch, hu]⟩
  rw [step_eq_turn_unscheduled, hu, State.unscheduled_of_nil hs]
  exact (State.seqTurn_of_decode he hd).trans hx

/-- The match event comes where a running command waits for it and nothing is scheduled
(notes/assumptions/2.md). -/
theorem step_of_held (hs : s.sched = []) (hh : s.held = true) :
    step s = .next s.tmrMatch ∧ s.nextIsMatch = true := by
  simp only [State.held, State.waiting, Bool.and_eq_true, Bool.not_eq_true', beq_iff_eq] at hh
  obtain ⟨⟨⟨⟨hb, hf⟩, hw⟩, ho⟩, hm⟩ := hh
  have hu : s.nextTurn = .matchEvent := by
    simp [State.nextTurn, hs, State.defaultTurn, State.seqEnabled_of_wait hw ho, State.hostEnabled, hb, hf, hm]
  refine ⟨?_, by rw [State.nextIsMatch, hu]; exact hm⟩
  rw [step_eq_turn_unscheduled, hu, State.unscheduled_of_nil hs]
  rfl

/-! ## A WRITE at its waits -/

/-- A WRITE that is accepted in a state of the invariant, admitted, on a timer that can match, with nothing
scheduled. -/
structure State.StartsWrite (s : State) (d : Lanes Byte) : Prop where
  inv : s.Inv
  accepted : s.Accepted
  constructed : s.constructed = true
  cfgSet : s.cfgSet = true
  decodes : decode s.cmd = .ok (.write d.l0 d.l1 d.l2 d.l3)
  canMatch : s.timer.canMatch = true
  sched : s.sched = []

/-- The WRITE that was accepted in `s` stands in `u` at the wait `w`, its lines showing `v`, with the flag
`f`. -/
structure State.Sends (s : State) (d : Lanes Byte) (w : WritePos) (f : Bool) (v : Lanes Level) (u : State) :
    Prop where
  inv : u.Inv
  keeps : u = { s with
    timer := u.timer, portData := u.portData, txb := (s.latched d).txb, q := (s.latched d).q
    ieSaved := s.ie, ie := false, pos := .write w }
  timer : u.timer.run = s.timer.run ∧ u.timer.div = s.timer.div ∧ u.timer.cmp = s.timer.cmp
  ocf : u.timer.ocf = f
  line : ∀ j, u.line j = .level (v.get j)

/-- The WRITE that was accepted in `s` has completed in `t` (42_write.md R132, R133). -/
structure State.Sent (s t : State) : Prop where
  keeps : t = { s with
    timer := t.timer, portData := t.portData, txb := t.txb, q := t.q
    ieSaved := s.ie, res := 1, busy := false, pos := .idle }
  timer : t.timer.run = s.timer.run ∧ t.timer.div = s.timer.div ∧ t.timer.cmp = s.timer.cmp
  ocf : t.timer.ocf = false
  line : ∀ j, t.line j = .level (idleLevel s.inv)

/-- What the lines show, as the observer samples it. -/
def shown (v : Lanes Level) : Lanes Line := .ofFn fun j => .level (v.get j)

theorem State.Sends.lines (h : s.Sends d w f v u) : u.lines = shown v :=
  Lanes.ext_get fun j => by rw [State.lines, shown, Lanes.get_ofFn, Lanes.get_ofFn, h.line]

section
variable (hs : s.StartsWrite d)
include hs

/-- What the frame needs of a state at a wait. -/
theorem State.Sends.running (h : s.Sends d w f v u) :
    u.busy = true ∧ u.fault = 0 ∧ u.pos = .write w ∧ u.sched = [] ∧
      decode u.cmd = .ok (.write d.l0 d.l1 d.l2 d.l3) ∧ u.constructed = true := by
  rw [h.keeps]
  exact ⟨hs.accepted.busy, hs.accepted.fault, rfl, hs.sched, hs.decodes, hs.constructed⟩

/-- The match event at a wait sets the flag, and is sampled. -/
theorem State.Sends.match_event (h : s.Sends d w false v u) (hw : (Pos.write w).isAwait = true) :
    step u = .next u.tmrMatch ∧ u.nextIsMatch = true ∧ s.Sends d w true v u.tmrMatch := by
  obtain ⟨hb, hf, hp, hsched, -⟩ := h.running hs
  obtain ⟨hrun, hdiv, hcmp⟩ := h.timer
  have hcan : u.timer.canMatch = true := by
    rw [Timer.canMatch, hrun, hdiv, hcmp]; exact hs.canMatch
  have hlaw : u.slotOpen = true := (State.slotOpen_iff u).2 fun _ _ _ => by rw [hp]; exact hw
  have hm : u.matchEnabled = true := (State.matchEnabled_iff u).2 ⟨hcan, hlaw⟩
  have hheld : u.held = true := by simp [State.held, State.waiting, hb, hf, hp, hw, h.ocf, hm]
  obtain ⟨hstep, hsample⟩ := step_of_held hsched hheld
  obtain ⟨hrun', hdiv', hcmp', -⟩ := u.tmrMatch_keeps
  refine ⟨hstep, hsample, h.inv.tmrMatch, ?_, ⟨hrun'.trans hrun, hdiv'.trans hdiv, hcmp'.trans hcmp⟩, ?_,
    fun j => ?_⟩
  · rw [State.tmrMatch_eq]
    exact congrArg (fun x : State => { x with timer := u.tmrMatch.timer }) h.keeps
  · rw [State.tmrMatch_timer, if_pos hm]; rfl
  · rw [State.tmrMatch_eq]; exact h.line j

/-- What SEQ's run keeps from a wait with the flag set: the invariant. -/
theorem State.Sends.inv_exec (h : s.Sends d w true v u) (hw : (Pos.write w).isAwait = true)
    (hx : exec (.write d.l0 d.l1 d.l2 d.l3) u = .next t) :
    step u = .next t ∧ u.nextIsMatch = false ∧ t.Inv := by
  obtain ⟨hb, hf, hp, hsched, hd, -⟩ := h.running hs
  have he := State.seqEnabled_of_flag hb hf (by rw [hp]; exact hw) h.ocf
  obtain ⟨hstep, hsample⟩ := step_of_enabled hsched he hd hx
  exact ⟨hstep, hsample, stepKeepsTheInvariant u t h.inv hstep⟩

/-- A wait that leads to the wait `w'` and drives nothing. -/
theorem State.Sends.tick (h : s.Sends d w true v u) (hw : (Pos.write w).isAwait = true)
    (hw' : (Pos.write w').isAwait = true)
    (hm : micro (.write d.l0 d.l1 d.l2 d.l3) u = u.awaitTick (.write w')) :
    ∃ t, exec (.write d.l0 d.l1 d.l2 d.l3) u = .next t ∧ s.Sends d w' false v t := by
  obtain ⟨hb, hf, hp, -⟩ := h.running hs
  have hx := exec_wait_to_wait hb hf (by rw [hp]; exact hw) h.ocf hm hw'
  obtain ⟨-, -, hinv⟩ := h.inv_exec hs hw hx
  exact ⟨_, hx, hinv, congrArg (State.ticked · (.write w')) h.keeps, h.timer, rfl, h.line⟩

/-- The levels that a slot of the WRITE drives (42_write.md R127 to R130). -/
def State.cell (s : State) (d : Lanes Byte) (slot : Slot) : Lanes Level :=
  .ofFn fun j => (s.latched d).slotLevel slot j

/-- A slot leads to the next wait, and shows its levels. -/
theorem State.Sends.slot {slot : Slot} (h : s.Sends d (.await slot) true v u) :
    ∃ t, exec (.write d.l0 d.l1 d.l2 d.l3) u = .next t ∧
      s.Sends d (afterSlot s.pmode slot) false (s.cell d slot) t := by
  obtain ⟨hb, hf, hp, -, -, hc⟩ := h.running hs
  have hx := exec_slot hb hf hp h.ocf d
  obtain ⟨-, -, hinv⟩ := h.inv_exec hs rfl hx
  refine ⟨_, hx, hinv, ?_, ?_, ?_, fun j => ?_⟩
  · exact (u.slotDone_eq slot).trans (congrArg (fun x : State => { x with
      timer := { u.timer with ocf := false }, portData := (u.slotDone slot).portData
      pos := .write (afterSlot x.pmode slot) }) h.keeps)
  · rw [State.slotDone_eq]; exact h.timer
  · rw [State.slotDone_eq]
  · rw [h.inv.line_slotDone hc slot j, State.cell, Lanes.get_ofFn, h.keeps, State.latched_eq]
    rfl

/-- A last wait of the stop bits leads to the completion. -/
theorem State.Sends.leave (h : s.Sends d w true (allLanes (idleLevel s.inv)) u)
    (hw : (Pos.write w).isAwait = true)
    (hm : micro (.write d.l0 d.l1 d.l2 d.l3) u = u.awaitTick (.write .leave)) :
    ∃ t, exec (.write d.l0 d.l1 d.l2 d.l3) u = .next t ∧ s.Sent t := by
  obtain ⟨hb, hf, hp, -⟩ := h.running hs
  have hx := exec_wait_to_leave hb hf (by rw [hp]; exact hw) h.ocf hm
  refine ⟨_, hx, ?_, h.timer, rfl, fun j => (h.line j).trans ?_⟩
  · exact congrArg (fun x : State => { x with
      timer := { u.timer with ocf := false }, txb := u.txb, q := u.q, ie := x.ieSaved, res := 1
      busy := false, pos := .idle }) h.keeps
  · fin_cases j <;> rfl

end

/-! ## What the rest of a frame shows -/

/-- The bits of a slot in `Cells` are those of the transmitted bytes (42_write.md R121, R124). -/
theorem State.cell_bit (s : State) (d : Lanes Byte) (k : Fin 8) :
    s.cell d (.bit k) = .ofFn fun j => (d.get j).getLsbD k ^^ s.inv := by
  refine Lanes.ext_get fun j => ?_
  rw [State.cell, State.latched_eq, Lanes.get_ofFn, Lanes.get_ofFn]
  simp only [State.slotLevel, dataLevel, Lanes.get_ofFn, getLsbD_txByte _ _ k.isLt]

/-- The parity levels in `Cells` count the operand bytes, WRITE the transmitted ones (42_write.md R122). -/
theorem State.cell_par (hp : s.pmode ≠ 0) (d : Lanes Byte) :
    s.cell d .par = .ofFn fun j => parLevel s.cfg s.inv s.pmode (bitParity (d.get j)) := by
  refine Lanes.ext_get fun j => ?_
  have hq : (s.latched d).q.get j = bitParity (d.get j) := by rw [State.latched_q hp, bitParity_txByte]
  rw [State.latched_eq] at hq
  rw [State.cell, State.latched_eq, Lanes.get_ofFn, Lanes.get_ofFn, ← hq]
  rfl

/-- `Cells` is what the slots drive, and the idle level for a second stop bit (42_write.md R135). -/
theorem State.cells_eq_slots (s : State) (d : Lanes Byte) : cells s.cfg d s.inv s.pmode s.stopb =
    s.cell d .start :: ((List.finRange 8).map (fun k => s.cell d (.bit k)) ++
      ((if parityEnabled s.pmode then [s.cell d .par] else []) ++ s.cell d .stop ::
        if twoStops s.stopb then [allLanes (idleLevel s.inv)] else [])) := by
  have hstart : s.cell d .start = allLanes (startLevel s.inv) := by rw [State.cell, State.latched_eq]; rfl
  have hstop : s.cell d .stop = allLanes (idleLevel s.inv) := by rw [State.cell, State.latched_eq]; rfl
  have hdata : (List.range 8).map (fun k => Lanes.ofFn fun j => (d.get j).getLsbD k ^^ s.inv) =
      (List.finRange 8).map (fun k => s.cell d (.bit k)) := by
    simp only [State.cell_bit]; rfl
  rw [cells, hdata, hstart, hstop]
  simp only [List.append_assoc, List.cons_append, List.nil_append]
  congr 3
  split
  · next hp => rw [State.cell_par ((parityEnabled_iff _).1 hp)]
  · rfl

/-- The vectors `vs` are sampled after `t`, one in two steps, and then the WRITE accepted in `s` has
completed. -/
def Emitted (s : State) (vs : List (Lanes Level)) (t : State) : Prop :=
  samples (2 * vs.length) t = vs.map shown ∧ ∃ t', core.run (2 * vs.length) t = .next t' ∧ s.Sent t'

/-- From the wait `w`, showing `v`, with the flag set, SEQ goes on to show `vs`. -/
def Emits (s : State) (d : Lanes Byte) (w : WritePos) (v : Lanes Level) (vs : List (Lanes Level)) : Prop :=
  ∀ u, s.Sends d w true v u → ∃ t, exec (.write d.l0 d.l1 d.l2 d.l3) u = .next t ∧ Emitted s vs t

section
variable (hs : s.StartsWrite d)
include hs

/-- A wait with the flag clear shows its vector at the match event, and then what SEQ goes on to show. -/
theorem Emits.emitted {vs : List (Lanes Level)} (he : Emits s d w v vs) (hw : (Pos.write w).isAwait = true)
    (h : s.Sends d w false v u) : Emitted s (v :: vs) u := by
  obtain ⟨hmatch, hsample, hset⟩ := h.match_event hs hw
  obtain ⟨t, hx, hsamples, t', hrun, hsent⟩ := he _ hset
  obtain ⟨hstep, hno, -⟩ := hset.inv_exec hs hw hx
  have hlen : 2 * (v :: vs).length = 2 * vs.length + 1 + 1 := by rw [List.length_cons]; omega
  refine ⟨?_, t', ?_, hsent⟩
  · rw [hlen, samples_succ _ hmatch, samples_succ _ hstep, hsample, hno, hsamples, if_pos rfl, h.lines]
    rfl
  · rw [hlen, run_succ _ hmatch, run_succ _ hstep, hrun]

/-- A wait that leads to the wait `w'` shows what is shown from there, its vector first. -/
theorem Emits.of_wait {vs : List (Lanes Level)} (he : Emits s d w' v' vs) (hw' : (Pos.write w').isAwait = true)
    (hlead : ∀ u, s.Sends d w true v u →
      ∃ t, exec (.write d.l0 d.l1 d.l2 d.l3) u = .next t ∧ s.Sends d w' false v' t) :
    Emits s d w v (v' :: vs) := fun u h => by
  obtain ⟨t, hx, hsends⟩ := hlead u h
  exact ⟨t, hx, he.emitted hs hw' hsends⟩

/-- A slot shows its levels next. -/
theorem Emits.slot {slot : Slot} {vs : List (Lanes Level)}
    (he : Emits s d (afterSlot s.pmode slot) (s.cell d slot) vs) (v : Lanes Level) :
    Emits s d (.await slot) v (s.cell d slot :: vs) :=
  he.of_wait hs (isAwait_afterSlot s.pmode slot) fun _ h => h.slot hs

/-- The stop bits: the last wait, or the last two, show the idle level (42_write.md R131). -/
theorem emits_stop : Emits s d .t1 (allLanes (idleLevel s.inv))
    (if twoStops s.stopb then [allLanes (idleLevel s.inv)] else []) := by
  have hend : ∀ {w} u, s.Sends d w true (allLanes (idleLevel s.inv)) u → (Pos.write w).isAwait = true →
      micro (.write d.l0 d.l1 d.l2 d.l3) u = u.awaitTick (.write .leave) →
      ∃ t, exec (.write d.l0 d.l1 d.l2 d.l3) u = .next t ∧ Emitted s [] t := fun u h hw hm => by
    obtain ⟨t, hx, hsent⟩ := h.leave hs hw hm
    exact ⟨t, hx, rfl, t, rfl, hsent⟩
  have hmicro : ∀ u, s.Sends d .t1 true (allLanes (idleLevel s.inv)) u →
      micro (.write d.l0 d.l1 d.l2 d.l3) u =
        u.awaitTick (if twoStops s.stopb then .write .t2 else .write .leave) := fun u h => by
    rw [h.keeps]; rfl
  cases h2 : twoStops s.stopb with
  | false => exact fun u h => hend u h rfl (by rw [hmicro u h, h2]; rfl)
  | true =>
    have hlast : Emits s d .t2 (allLanes (idleLevel s.inv)) [] := fun u h =>
      hend u h rfl (by rw [h.keeps]; rfl)
    exact hlast.of_wait hs rfl fun u h => h.tick hs rfl rfl (by rw [hmicro u h, h2]; rfl)

/-- From the wait before the start bit the frame shows its cells. -/
theorem emits_cells (v : Lanes Level) : Emits s d (.await .start) v (cells s.cfg d s.inv s.pmode s.stopb) := by
  have hidle : s.cell d .stop = allLanes (idleLevel s.inv) := by
    rw [State.cell, State.latched_eq]; rfl
  have hstop : ∀ v, Emits s d (.await .stop) v (s.cell d .stop ::
      if twoStops s.stopb then [allLanes (idleLevel s.inv)] else []) :=
    Emits.slot hs (hidle ▸ emits_stop hs)
  rw [s.cells_eq_slots d]
  refine Emits.slot hs ?_ v
  refine Emits.slot (slot := .bit 0) hs (Emits.slot (slot := .bit 1) hs (Emits.slot (slot := .bit 2) hs
    (Emits.slot (slot := .bit 3) hs (Emits.slot (slot := .bit 4) hs (Emits.slot (slot := .bit 5) hs
    (Emits.slot (slot := .bit 6) hs (Emits.slot (slot := .bit 7) hs ?_ _) _) _) _) _) _) _) _
  cases hp : parityEnabled s.pmode with
  | false =>
    rw [show afterSlot s.pmode (.bit 7) = .await .stop by simp [afterSlot, hp]]
    exact hstop _
  | true =>
    rw [show afterSlot s.pmode (.bit 7) = .await .par by simp [afterSlot, hp]]
    exact Emits.slot (slot := .par) hs (hstop _) _

/-- From a wait of the pre-synchronisation the idle level is shown once for it and each one after it, and
then the cells (42_write.md R140). -/
theorem emits_pre (n : Nat) : Emits s d (.pre n) (allLanes (idleLevel s.inv))
    (List.replicate (n + 1) (allLanes (idleLevel s.inv)) ++ cells s.cfg d s.inv s.pmode s.stopb) := by
  induction n with
  | zero => exact (emits_cells hs _).of_wait hs rfl fun u h => h.tick hs rfl rfl (by rw [h.keeps]; rfl)
  | succ n ih => exact ih.of_wait hs rfl fun u h => h.tick hs rfl rfl (by rw [h.keeps]; rfl)

/-- From the first wait: the pre-synchronisation, then the cells. -/
theorem emits_first : Emits s d (firstWait s.cfg) (allLanes (idleLevel s.inv))
    (List.replicate s.cfg.preSync (allLanes (idleLevel s.inv)) ++ cells s.cfg d s.inv s.pmode s.stopb) := by
  unfold firstWait
  cases s.cfg.preSync with
  | zero => exact emits_cells hs _
  | succ n => exact emits_pre hs n

/-- The WRITE comes to its first wait with the lines at rest (10_state.md R31c). -/
theorem State.StartsWrite.sends_first :
    s.Sends d (firstWait s.cfg) s.timer.ocf (allLanes (idleLevel s.inv))
      ((s.latched d).goto (.write (firstWait s.cfg))) := by
  obtain ⟨k, hk⟩ := hs.accepted.runSeq_write hs.constructed hs.cfgSet d
  rw [runSeq_eq_iterate k s hs.decodes] at hk
  have hinv := State.microTurn_iterate_induct (P := State.Inv) (fun _ hu => hu.microTurn) k hs.inv
  rw [hk] at hinv
  refine ⟨hinv, by rw [State.latched_eq]; rfl, ?_, ?_, fun j => ?_⟩
  · rw [State.latched_eq]; exact ⟨rfl, rfl, rfl⟩
  · rw [State.latched_eq]; rfl
  · have htxd : s.txd j = idleLevel s.inv :=
      hs.inv.rests hs.constructed j (by rw [hs.accepted.pos]; rfl)
    have hoe : s.oe j = true := hs.inv.outputs hs.constructed j
    have hline : s.line j = .level (idleLevel s.inv) := by rw [State.line, hoe, htxd, if_pos rfl]
    rw [State.latched_eq]
    refine Eq.trans hline ?_
    fin_cases j <;> rfl

/-- SEQ's first turn leads to what is sampled: the idle level once for each wait before the start bit that the
flag does not let pass, and the cells. -/
theorem State.StartsWrite.exec_emitted : ∃ t, exec (.write d.l0 d.l1 d.l2 d.l3) s = .next t ∧
    Emitted s (List.replicate (s.cfg.preSync + 1 - s.timer.ocf.toNat) (allLanes (idleLevel s.inv)) ++
      cells s.cfg d s.inv s.pmode s.stopb) t := by
  obtain ⟨k, hk⟩ := hs.accepted.runSeq_write hs.constructed hs.cfgSet d
  have hexec := exec_of_runSeq (by rw [hs.accepted.pos]; rfl) k hk
  have hfirst := hs.sends_first
  rw [hexec]
  cases ho : s.timer.ocf with
  | true =>
    rw [ho] at hfirst
    exact emits_first hs _ hfirst
  | false =>
    rw [ho] at hfirst
    exact ⟨_, exec_of_wait (isAwait_firstWait s.cfg) hfirst.ocf,
      (emits_first hs).emitted hs (isAwait_firstWait s.cfg) hfirst⟩

end

/-- Settles O43: SEQ's first turn, and then a match event and a turn of SEQ for each vector. -/
theorem writeEmitsItsCells : Obligations.WriteEmitsItsCells := by
  unfold Obligations.WriteEmitsItsCells
  intro s d hinv hacc hc hcs hd hcan hsched stale steps
  have hs : s.StartsWrite d := ⟨hinv, hacc, hc, hcs, hd, hcan, hsched⟩
  obtain ⟨t, hx, hsamples, t', hrun, hsent⟩ := hs.exec_emitted
  obtain ⟨hstep, hno⟩ := step_of_enabled hsched hacc.seqEnabled hd hx
  have hlen : steps = 2 * (List.replicate (s.cfg.preSync + 1 - stale) (allLanes (idleLevel s.inv)) ++
      cells s.cfg d s.inv s.pmode s.stopb).length + 1 := by
    have hstale : stale ≤ 1 := Bool.toNat_le _
    simp only [steps, waits, List.length_append, List.length_replicate, length_cells]
    omega
  obtain ⟨hrun', hdiv, hcmp⟩ := hsent.timer
  rw [hlen]
  refine ⟨?_, t', (run_succ _ hstep).trans hrun, ?_⟩
  · rw [samples_succ _ hstep, hno, hsamples, List.map_append, List.map_replicate]
    rfl
  · refine ⟨?_, ?_, ?_, ?_, ?_, hsent.ocf, hsent.line, ?_, ?_, ?_, ?_, ?_, ?_, ?_, hrun', hdiv, hcmp⟩ <;>
      rw [hsent.keeps]
    exact hacc.fault

end Sys2Proof.Machine
end

section
/-! PROOFS. Lanes (42_write.md R141): what a WRITE shows on a channel depends on that channel's byte alone. -/

namespace Sys2Proof.Machine

variable {s t : State} {i : Fin 4}

/-! ## Two WRITEs alike on a channel -/

/-- Both command words are WRITEs, with the same byte for channel `i`. -/
def SameData (i : Fin 4) (w w' : CmdWord) : Prop :=
  ∃ d d' : Lanes Byte, decode w = .ok (.write d.l0 d.l1 d.l2 d.l3) ∧
    decode w' = .ok (.write d'.l0 d'.l1 d'.l2 d'.l3) ∧ d.get i = d'.get i

/-- Two blocks, each with a WRITE in `CMD`, that differ in the data of the other channels and in what follows
from it: the command words, the port data, the buffers. -/
structure State.AlikeOn (i : Fin 4) (s t : State) : Prop where
  keeps : t = { s with cmd := t.cmd, portData := t.portData, txb := t.txb, q := t.q }
  data : SameData i s.cmd t.cmd
  txb : t.txb.get i = s.txb.get i
  q : t.q.get i = s.q.get i
  txd : t.txd i = s.txd i

theorem SameData.isWrite {w w' : CmdWord} (h : SameData i w w') : isWrite w = true ∧ isWrite w' = true := by
  obtain ⟨d, d', hd, hd', -⟩ := h
  simp [Machine.isWrite, hd, hd']

theorem State.AlikeOn.seqEnabled_eq (h : s.AlikeOn i t) : t.seqEnabled = s.seqEnabled := by
  rw [h.keeps]; rfl

theorem State.AlikeOn.timer_eq (h : s.AlikeOn i t) : t.timer = s.timer := by rw [h.keeps]

/-- The slot law reads of the command whether it is a WRITE (20_memory.md R52). -/
theorem State.AlikeOn.slotOpen_eq (h : s.AlikeOn i t) : t.slotOpen = s.slotOpen := by
  obtain ⟨hw, hw'⟩ := h.data.isWrite
  unfold State.slotOpen
  rw [hw, hw', h.keeps]

theorem State.AlikeOn.matchEnabled_eq (h : s.AlikeOn i t) : t.matchEnabled = s.matchEnabled := by
  rw [State.matchEnabled, State.matchEnabled, h.slotOpen_eq, h.timer_eq]

theorem State.AlikeOn.nextTurn_eq (h : s.AlikeOn i t) : t.nextTurn = s.nextTurn := by
  have hrest : t.sched = s.sched ∧ t.host = s.host ∧ t.hostEnabled = s.hostEnabled ∧ t.busy = s.busy ∧
      t.fault = s.fault := by rw [h.keeps]; exact ⟨rfl, rfl, rfl, rfl, rfl⟩
  obtain ⟨hsched, hhost, hport, hb, hf⟩ := hrest
  simp only [State.nextTurn, State.defaultTurn, hsched, hhost, hport, hb, hf, h.seqEnabled_eq,
    h.matchEnabled_eq]

theorem State.AlikeOn.nextIsMatch_eq (h : s.AlikeOn i t) : t.nextIsMatch = s.nextIsMatch := by
  simp only [State.nextIsMatch, h.nextTurn_eq, h.matchEnabled_eq, h.slotOpen_eq, h.timer_eq]

theorem State.AlikeOn.line_eq (h : s.AlikeOn i t) : t.line i = s.line i := by
  have hoe : t.oe i = s.oe i := by rw [h.keeps]; rfl
  exact State.line_congr h.txd hoe

/-! ## WRITE's micro-steps -/

/-- The levels of a slot on channel `i` come from the channel's own byte and count (42_write.md R124). -/
theorem State.AlikeOn.slotLevel_eq (h : s.AlikeOn i t) (slot : Slot) : t.slotLevel slot i = s.slotLevel slot i := by
  have hrest : t.inv = s.inv ∧ t.cfg = s.cfg ∧ t.pmode = s.pmode := by rw [h.keeps]; exact ⟨rfl, rfl, rfl⟩
  obtain ⟨hinv, hcfg, hpm⟩ := hrest
  cases slot <;> simp only [State.slotLevel, hinv, hcfg, hpm, h.txb, h.q]

/-- An `await tick` is passed in both blocks or in neither (40_clock.md R82). -/
theorem State.AlikeOn.awaitTick (h : s.AlikeOn i t) (p : Pos) : (s.awaitTick p).AlikeOn i (t.awaitTick p) := by
  unfold State.awaitTick
  rw [h.timer_eq]
  split
  · exact { h with keeps := congrArg (fun x : State =>
      { x with timer := { s.timer with ocf := false }, pos := p }) h.keeps }
  · exact h

/-- A pin write of a slot shows the same level on channel `i`, if it is the channel's, and does not reach it
else (20_memory.md R42). -/
theorem State.AlikeOn.pinWrite (h : s.AlikeOn i t) (hs : s.Inv) (ht : t.Inv) (hc : s.constructed = true)
    (slot : Slot) (j : Fin 4) {p p' : Pos} (hp : p' = p) :
    ((s.pinWrite j (s.slotLevel slot j)).goto p).AlikeOn i ((t.pinWrite j (t.slotLevel slot j)).goto p') := by
  subst hp
  obtain ⟨px, py, hpl⟩ := hs.placed hc
  have hpl' : t.Placed px py := hpl.congr (fun k => by rw [h.keeps]) (by rw [h.keeps])
  have htxd : (t.pinWrite j (t.slotLevel slot j)).txd i = (s.pinWrite j (s.slotLevel slot j)).txd i := by
    rw [hpl.txd_pinWrite (PortFile.wf_of_inRange hs.dataOk), hpl'.txd_pinWrite (PortFile.wf_of_inRange ht.dataOk)]
    split
    · next hj => rw [hj, h.slotLevel_eq]
    · exact h.txd
  exact { h with
    keeps := congrArg (fun x : State =>
      { x with portData := (t.pinWrite j (t.slotLevel slot j)).portData, pos := p' }) h.keeps
    txd := htxd }

/-- A byte latched for channel `i` is the same in both (42_write.md R121). -/
theorem State.AlikeOn.latch (h : s.AlikeOn i t) {d d' : Lanes Byte} (hd : d.get i = d'.get i) (j : Fin 4)
    {p p' : Pos} (hp : p' = p) : State.AlikeOn i
      { s with txb := s.txb.set j (txByte s.inv (d.get j)), pos := p }
      { t with txb := t.txb.set j (txByte t.inv (d'.get j)), pos := p' } := by
  subst hp
  have hinv : t.inv = s.inv := by rw [h.keeps]
  refine { h with
    keeps := congrArg (fun x : State =>
      { x with txb := t.txb.set j (txByte t.inv (d'.get j)), pos := p' }) h.keeps
    txb := ?_ }
  rw [Lanes.get_set, Lanes.get_set, hinv]
  split
  · next hj => rw [hj, hd]
  · exact h.txb

/-- A count stored for channel `i` is the same in both (42_write.md R122). -/
theorem State.AlikeOn.count (h : s.AlikeOn i t) (j : Fin 4) (p : Pos) :
    State.AlikeOn i { s with q := s.q.set j (bitParity (s.txb.get j)), pos := p }
      { t with q := t.q.set j (bitParity (t.txb.get j)), pos := p } := by
  refine { h with
    keeps := congrArg (fun x : State =>
      { x with q := t.q.set j (bitParity (t.txb.get j)), pos := p }) h.keeps
    q := ?_ }
  rw [Lanes.get_set, Lanes.get_set]
  split
  · next hj => rw [hj, h.txb]
  · exact h.q

/-- WRITE's micro-steps read of the other channels' data nothing that reaches channel `i`. -/
theorem State.AlikeOn.microWrite (h : s.AlikeOn i t) (hs : s.Inv) (ht : t.Inv) {p : WritePos}
    (hp : s.pos = .write p) {d d' : Lanes Byte} (hd : d.get i = d'.get i) :
    (microWrite d.l0 d.l1 d.l2 d.l3 s).AlikeOn i (microWrite d'.l0 d'.l1 d'.l2 d'.l3 t) := by
  obtain ⟨hc, -⟩ := hs.writing p hp
  have hpt : t.pos = .write p := by rw [h.keeps]; exact hp
  have hpm : t.pmode = s.pmode := by rw [h.keeps]
  have hst : t.stopb = s.stopb := by rw [h.keeps]
  simp only [Machine.microWrite, hp, hpt, State.drvSlot_eq]
  cases p with
  | latch j => exact h.latch hd j (by rw [hpm])
  | count j => exact h.count j _
  | enter =>
    exact { h with
      keeps := congrArg (fun x : State => x.enterCritical.goto (.write (afterEnter x.cfg))) h.keeps }
  | pre n => exact h.awaitTick _
  | await slot => exact h.awaitTick _
  | drv slot j => exact h.pinWrite hs ht hc slot j (by rw [hpm])
  | t1 => rw [hst]; exact h.awaitTick _
  | t2 => exact h.awaitTick _
  | leave => exact { h with keeps := congrArg (fun x : State => x.leaveCritical.goto .done) h.keeps }

/-! ## Turns -/

/-- The admissions of two WRITEs lead alike to their first lines, or to the same fault (60_exceptions.md
R162). -/
theorem State.AlikeOn.admitOrFault (h : s.AlikeOn i t) (d d' : Lanes Byte) (p : Pos) :
    (s.admitOrFault (.write d.l0 d.l1 d.l2 d.l3) p).AlikeOn i
      (t.admitOrFault (.write d'.l0 d'.l1 d'.l2 d'.l3) p) := by
  have hcheck : admission t (.write d'.l0 d'.l1 d'.l2 d'.l3) = admission s (.write d.l0 d.l1 d.l2 d.l3) := by
    rw [h.keeps]; rfl
  have hf : t.fault = s.fault := by rw [h.keeps]
  unfold State.admitOrFault
  rw [hcheck]
  cases admission s (.write d.l0 d.l1 d.l2 d.l3) with
  | none => exact { h with keeps := congrArg (State.goto · p) h.keeps }
  | some c =>
    show (s.raiseFault c).AlikeOn i (t.raiseFault c)
    by_cases hs : s.fault = 0
    · rw [State.raiseFault_eq hs, State.raiseFault_eq (hf.trans hs)]
      exact { h with keeps := congrArg (fun x : State => { x with fault := c.bits }) h.keeps }
    · rw [State.raiseFault_eq_self hs, State.raiseFault_eq_self (by rwa [hf])]
      exact h

/-- SEQ's micro-turn keeps two WRITEs alike on the channel. -/
theorem State.AlikeOn.microTurn (h : s.AlikeOn i t) (hs : s.Inv) (ht : t.Inv) :
    s.microTurn.AlikeOn i t.microTurn := by
  cases he : s.seqEnabled with
  | false =>
    rw [State.microTurn_of_not_enabled he, State.microTurn_of_not_enabled (h.seqEnabled_eq.trans he)]
    exact h
  | true =>
    obtain ⟨d, d', hd, hd', hi⟩ := h.data
    have hpos : t.pos = s.pos := by rw [h.keeps]
    rw [State.microTurn_of_decode he hd, State.microTurn_of_decode (h.seqEnabled_eq.trans he) hd']
    cases hp : s.pos with
    | adm =>
      rw [micro_adm hp, micro_adm (hpos.trans hp)]
      exact h.admitOrFault d d' _
    | done =>
      rw [micro_done hp, micro_done (hpos.trans hp)]
      exact { h with keeps := congrArg (State.completeWith · Config.resOk) h.keeps }
    | write p => exact h.microWrite hs ht hp hi
    | idle | construct | begin | destroy | clkConfigure | clkAwait | clkStop =>
      rw [micro_of_not_fits (by rw [hp]; rfl), micro_of_not_fits (by rw [hpos, hp]; rfl)]
      exact h

/-- SEQ's micro-turns in a row keep two WRITEs alike on the channel. -/
theorem State.AlikeOn.microTurn_iterate (n : Nat) (h : s.AlikeOn i t) (hs : s.Inv) (ht : t.Inv) :
    (State.microTurn^[n] s).AlikeOn i (State.microTurn^[n] t) := by
  induction n generalizing s t with
  | zero => exact h
  | succ n ih => exact ih (h.microTurn hs ht) hs.microTurn ht.microTurn

/-- A turn of TMR, which writes the timer only. -/
theorem State.AlikeOn.withTimer (h : s.AlikeOn i t) (c : Timer) :
    State.AlikeOn i { s with timer := c } { t with timer := c } :=
  { h with keeps := congrArg (fun x : State => { x with timer := c }) h.keeps }

theorem State.AlikeOn.tmrClk (h : s.AlikeOn i t) : s.tmrClk.AlikeOn i t.tmrClk := by
  rw [s.tmrClk_eq, t.tmrClk_eq, State.tmrClk_timer, State.tmrClk_timer, h.slotOpen_eq, h.timer_eq]
  exact h.withTimer _

theorem State.AlikeOn.tmrMatch (h : s.AlikeOn i t) : s.tmrMatch.AlikeOn i t.tmrMatch := by
  rw [s.tmrMatch_eq, t.tmrMatch_eq, State.tmrMatch_timer, State.tmrMatch_timer, h.matchEnabled_eq, h.timer_eq]
  exact h.withTimer _

/-! ## Schedules of SEQ and TMR -/

/-- The turns of SEQ and TMR. -/
def Turn.ofSeqOrTmr (u : Turn) : Prop := u = .seq ∨ u = .micro ∨ u = .clk ∨ u = .matchEvent

/-- Nothing is left for the host to do, and the schedule has turns of SEQ and TMR only. -/
structure State.SeqAndTmr (s : State) : Prop where
  host : s.host = []
  sched : ∀ u ∈ s.sched, u.ofSeqOrTmr

/-- The next turn of such a schedule is one of SEQ or TMR, when the schedule has ended too. -/
theorem State.SeqAndTmr.nextTurn (h : s.SeqAndTmr) : s.nextTurn.ofSeqOrTmr := by
  unfold State.nextTurn
  cases hs : s.sched with
  | nil =>
    simp only [State.defaultTurn, h.host, List.isEmpty_nil, Bool.not_true, Bool.and_false, Bool.false_eq_true,
      if_false]
    split_ifs
    · exact .inl rfl
    · exact .inr (.inr (.inr rfl))
    · exact .inr (.inr (.inl rfl))
  | cons u l => exact h.sched u (by simp [hs])

/-- A step that leaves the host alone goes on under such a schedule. -/
theorem State.SeqAndTmr.tail (h : s.SeqAndTmr) (hhost : t.host = s.host) (hsched : t.sched = s.sched.tail) :
    t.SeqAndTmr :=
  ⟨hhost.trans h.host, fun u hu => h.sched u (List.mem_of_mem_tail (hsched ▸ hu))⟩

/-- A step under such a schedule is a turn of SEQ or TMR, alike in two blocks that are alike on a channel. -/
theorem State.AlikeOn.step (h : s.AlikeOn i t) (hs : s.Inv) (ht : t.Inv) (hsched : s.SeqAndTmr) :
    ∃ s' t', step s = .next s' ∧ step t = .next t' ∧ s'.AlikeOn i t' ∧ s'.SeqAndTmr := by
  have hun : s.unscheduled.AlikeOn i t.unscheduled :=
    { h with keeps := congrArg State.unscheduled h.keeps }
  rw [step_eq_turn_unscheduled, step_eq_turn_unscheduled, h.nextTurn_eq]
  rcases hsched.nextTurn with hu | hu | hu | hu <;> rw [hu]
  · obtain ⟨-, -, hhost, hrest⟩ := s.unscheduled.microTurn_iterate_keeps seqFuel
    exact ⟨_, _, s.unscheduled.seqTurn_eq_iterate, t.unscheduled.seqTurn_eq_iterate,
      hun.microTurn_iterate seqFuel hs.unscheduled ht.unscheduled, hsched.tail hhost hrest⟩
  · obtain ⟨-, -, hhost, hrest⟩ := s.unscheduled.microTurn_keeps
    exact ⟨_, _, rfl, rfl, hun.microTurn hs.unscheduled ht.unscheduled, hsched.tail hhost hrest⟩
  · exact ⟨_, _, rfl, rfl, hun.tmrClk, hsched.tail (State.tmrClk_host _) (State.tmrClk_sched _)⟩
  · exact ⟨_, _, rfl, rfl, hun.tmrMatch, hsched.tail (State.tmrMatch_host _) (State.tmrMatch_sched _)⟩

/-- Two WRITEs alike on a channel show the same samples on it. -/
theorem State.AlikeOn.samples_eq (n : Nat) (h : s.AlikeOn i t) (hs : s.Inv) (ht : t.Inv)
    (hsched : s.SeqAndTmr) :
    (samples n s).map (fun v => v.get i) = (samples n t).map (fun v => v.get i) := by
  induction n generalizing s t with
  | zero => rfl
  | succ n ih =>
    obtain ⟨s', t', hs', ht', h', hsched'⟩ := h.step hs ht hsched
    have hrest := ih h' (stepKeepsTheInvariant s s' hs hs') (stepKeepsTheInvariant t t' ht ht') hsched'
    rw [samples_succ n hs', samples_succ n ht', List.map_append, List.map_append, hrest, h.nextIsMatch_eq]
    congr 1
    split
    · simp only [State.lines, List.map_cons, List.map_nil, Lanes.get_ofFn, h.line_eq]
    · rfl

/-- Settles O48: the two blocks are alike on the channel from the start, and stay so. -/
theorem lanesAreIndependent : Obligations.LanesAreIndependent := by
  unfold Obligations.LanesAreIndependent
  intro s d d' i n hinv hacc hc hcs hhost hsched hi
  have hloaded : ∀ w, State.Inv { s with cmd := w } := fun w =>
    { hinv with constructing := fun p hp => by cases hacc.pos.symm.trans hp }
  refine State.AlikeOn.samples_eq n ⟨rfl, ⟨d, d', ?_, ?_, hi⟩, rfl, rfl, rfl⟩ (hloaded _) (hloaded _)
    ⟨hhost, hsched⟩
  · exact decode_encode (.write d.l0 d.l1 d.l2 d.l3) rfl
  · exact decode_encode (.write d'.l0 d'.l1 d'.l2 d'.l3) rfl

end Sys2Proof.Machine
end

section
/-! PROOFS. The stream stubs READ, AVAILABLE, FLUSH, VALID (43_stream.md R150 to R153): commands without a body,
whose admission leads to their completion, and without operands. -/

namespace Sys2Proof.Machine

variable {s : State} {i : Instr}

/-! ## A command without a body, as SEQ runs it -/

/-- The one check of the commands without a body is that the block is constructed (60_exceptions.md R162). -/
theorem admission_of_no_body (s : State) (hi : firstPos i = .done) : admission s i = needConstructed s := by
  cases i with
  | construct | begin | write | destroy | clkConfigure | clkAwait | clkStop => cases hi
  | read | available | flush | valid => rfl

/-- In a constructed block, an accepted command without a body completes, and does nothing else. -/
theorem State.Accepted.exec_no_body (h : s.Accepted) (hi : firstPos i = .done) (hc : s.constructed = true) :
    exec i s = .next (s.completeWith (resultOf s.res i)) := by
  have ha : admission s i = none := (admission_of_no_body s hi).trans (if_pos hc)
  have hrun := runSeq_done (i := i) (s := s.goto .done) 30 h.busy h.fault rfl
  rw [h.exec_eq ha, hi, hrun]
  rfl

/-- In a block that is not constructed, it faults with `NOT_CONSTRUCTED`, and does nothing else. -/
theorem State.Accepted.exec_no_body_of_not_constructed (h : s.Accepted) (hi : firstPos i = .done)
    (hc : s.constructed = false) : exec i s = .next { s with fault := 2 } :=
  h.exec_of_fault (c := .notConstructed) ((admission_of_no_body s hi).trans (if_neg (by simp [hc])))

/-! ## Their words -/

/-- A word with an opcode of format N and a reserved bit set is illegal for that bit (30_encoding.md R61, R69). -/
theorem decode_of_reserved_bit {w : CmdWord} (hop : opField w ∈ formatNOpcodes) (hres : w.extractLsb' 0 40 ≠ 0) :
    decode w = .error .reservedBits := by
  cases decodesBy w with
  | formatN j _ _ hd => rw [hd, decodeN, if_neg hres]
  | formatC h | formatB h | formatW h | formatK h => exact absurd (h ▸ hop) (by decide)
  | unassigned h =>
    have hassigned : formatNOpcodes ⊆ assignedOpcodes := by decide
    exact absurd (hassigned hop) h

/-! ## The four commands -/

/-- Settles O20: both commands are without a body, and their result is "no data". -/
theorem readAndAvailableReportNoData : Obligations.ReadAndAvailableReportNoData := by
  unfold Obligations.ReadAndAvailableReportNoData
  refine ⟨fun s h => ⟨fun hc => ⟨?_, ?_⟩, fun hc => ⟨?_, ?_⟩⟩, decode_encode .read rfl,
    decode_encode .available rfl, fun w hop => decode_of_reserved_bit ?_⟩
  · exact h.exec_no_body (i := .read) rfl hc
  · exact h.exec_no_body (i := .available) rfl hc
  · exact h.exec_no_body_of_not_constructed rfl hc
  · exact h.exec_no_body_of_not_constructed rfl hc
  · rcases hop with hop | hop <;> exact hop ▸ by decide

/-- Settles O21: FLUSH is without a body, and its completion writes no result. -/
theorem flushIsANoOp : Obligations.FlushIsANoOp := by
  unfold Obligations.FlushIsANoOp
  refine ⟨fun s h => ⟨fun hc => ?_, fun hc => ?_⟩, decode_encode .flush rfl,
    fun w hop => decode_of_reserved_bit (hop ▸ by decide)⟩
  · exact h.exec_no_body (i := .flush) rfl hc
  · exact h.exec_no_body_of_not_constructed rfl hc

/-- Settles O22: VALID is without a body; before construction it faults, and answers nothing. -/
theorem validAnswersTrueOnceConstructed : Obligations.ValidAnswersTrueOnceConstructed := by
  unfold Obligations.ValidAnswersTrueOnceConstructed
  refine ⟨fun s h => ⟨fun hc => ?_, fun hc => ?_⟩, decode_encode .valid rfl,
    fun w hop => decode_of_reserved_bit (hop ▸ by decide)⟩
  · exact h.exec_no_body (i := .valid) rfl hc
  · exact h.exec_no_body_of_not_constructed rfl hc

end Sys2Proof.Machine
end

section
/-! PROOFS. Admission and faults (60_exceptions.md R161 to R164): which check fails, what fault entry leaves, and
what goes on beside a faulted block. -/

namespace Sys2Proof.Machine

variable {s t : State} {i : Instr} {c : FaultCode}

/-! ## The checks of the admission sequence -/

/-- What the checks of the admission sequence refuse of a well-formed command, by the fault they raise
(60_exceptions.md R162). -/
def FailsCheck (s : State) (i : Instr) : FaultCode → Prop
  | .illegalCmd => False
  | .alreadyConstructed => i.mnemonic = "CONSTRUCT" ∧ s.constructed = true
  | .notConstructed =>
    i.mnemonic ∈ ["BEGIN", "WRITE", "READ", "AVAILABLE", "FLUSH", "VALID", "DESTROY"] ∧ s.constructed = false
  | .invalidPin => ∃ p0 p1 p2 p3 inv, i = .construct p0 p1 p2 p3 inv ∧ s.constructed = false ∧
      ((∃ k, pinValid s.cfg (Lanes.get ⟨p0, p1, p2, p3⟩ k) = false) ∨
        ∃ k l, k ≠ l ∧ Lanes.get ⟨p0, p1, p2, p3⟩ k = Lanes.get ⟨p0, p1, p2, p3⟩ l)
  | .configUnset => i.mnemonic = "WRITE" ∧ s.constructed = true ∧ s.cfgSet = false

/-- What the check of the pin operands refuses: an invalid pin or two equal ones (41_lifecycle.md R103). -/
theorem pinsOk_eq_false_iff (c : Config) (pins : Lanes PinId) :
    pinsOk c pins = false ↔
      (∃ k, pinValid c (pins.get k) = false) ∨ ∃ k l, k ≠ l ∧ pins.get k = pins.get l := by
  rw [← Bool.not_eq_true, pinsOk_iff, not_and_or]
  simp only [not_forall, Bool.not_eq_true, exists_prop, not_not]

/-- The lifecycle check refuses a block that is not constructed, no more (60_exceptions.md R162). -/
theorem needConstructed_eq_some_iff (s : State) (c : FaultCode) :
    needConstructed s = some c ↔ c = .notConstructed ∧ s.constructed = false := by
  cases hc : s.constructed <;> simp [needConstructed, hc, eq_comm]

/-- The admission sequence raises the fault of the check that a well-formed command fails. -/
theorem admission_eq_some_iff (hi : i.wf = true) : admission s i = some c ↔ FailsCheck s i c := by
  cases i with
  | construct p0 p1 p2 p3 inv =>
    cases hc : s.constructed with
    | true => cases c <;> simp [admission, FailsCheck, Instr.mnemonic, hc]
    | false => cases c <;> simp [admission, FailsCheck, Instr.mnemonic, hc, ← pinsOk_eq_false_iff]
  | write =>
    cases hc : s.constructed with
    | true | false => cases c <;> simp [admission, FailsCheck, Instr.mnemonic, hc]
  | begin rate par stop =>
    have hpar : par ≠ 3 := by simpa [Instr.wf] using hi
    rw [admission, if_neg hpar, needConstructed_eq_some_iff]
    cases c <;> simp [FailsCheck, Instr.mnemonic]
  | read | available | flush | valid | destroy =>
    refine (needConstructed_eq_some_iff s c).trans ?_
    cases c <;> simp [FailsCheck, Instr.mnemonic]
  | clkConfigure | clkAwait | clkStop => cases c <;> simp [admission, FailsCheck, Instr.mnemonic]

/-! ## Fault entry -/

/-- An accepted command that fails a check faults at its first micro-step, which does nothing else
(60_exceptions.md R163). -/
theorem State.Accepted.micro_of_fault (h : s.Accepted) (ha : admission s i = some c) :
    micro i s = { s with fault := c.bits } := by
  rw [micro_adm h.pos, State.admitOrFault, ha]
  exact State.raiseFault_eq h.fault c

/-- An accepted command whose checks pass goes on to its body, and does nothing else (60_exceptions.md R162). -/
theorem State.Accepted.micro_of_admitted (h : s.Accepted) (ha : admission s i = none) :
    micro i s = { s with pos := firstPos i } := by
  rw [micro_adm h.pos, State.admitOrFault, ha]
  rfl

/-- The first micro-step of an accepted command is the command's. -/
theorem State.Accepted.turn_micro (h : s.Accepted) (hd : decode s.cmd = .ok i) :
    s.turn .micro = .next (micro i s) :=
  congrArg _ (State.microTurn_of_decode h.seqEnabled hd)

/-- A step raises a fault at the admission sequence only (60_exceptions.md R162). -/
theorem step_raises_fault (h : step s = .next t) (hf : s.fault = 0) (hne : t.fault ≠ 0) :
    s.pos = .adm ∧ (s.nextTurn = .seq ∨ s.nextTurn = .micro) := by
  cases step_moves h with
  | seq hu n =>
    obtain ⟨-, hadm⟩ := State.microTurn_iterate_fault (s := s.unscheduled) n (hf.symm ▸ hne)
    exact ⟨hadm, hu⟩
  | host hu =>
    rcases s.unscheduled.hostTurn_cases with ht | ⟨-, -, ⟨_, _, ht⟩ | ⟨_, _, ht⟩⟩ <;> simp [ht, hf] at hne
  | clk | matchEvent | masked => simp [hf] at hne
  | port a hu t ha =>
    obtain ⟨-, -, -, ⟨-, rfl⟩ | ⟨-, rfl⟩⟩ := State.portAct_cases ha <;> exact absurd hf hne
  | rst => exact absurd rfl hne

/-- Settles O16: the first micro-step raises the fault of the check that fails, or leads to the body. -/
theorem admissionRaisesTheFirstFailingFault : Obligations.AdmissionRaisesTheFirstFailingFault := by
  unfold Obligations.AdmissionRaisesTheFirstFailingFault
  obtain ⟨-, hillegal⟩ := illegalWordsFault
  refine ⟨fun s e h hd => (hillegal s e h hd).2, fun s i h hd => ?_, fun s t => step_raises_fault⟩
  have hfails (c : FaultCode) (hc : FailsCheck s i c) : s.turn .micro = .next { s with fault := c.bits } := by
    rw [h.turn_micro hd, h.micro_of_fault ((admission_eq_some_iff (wf_of_decode hd)).2 hc)]
  refine ⟨hfails .alreadyConstructed, hfails .notConstructed, hfails .invalidPin, hfails .configUnset,
    fun hthere hnone hpins hunset => ⟨firstPos i, ?_, (leadsTo_firstPos i).fits, ?_⟩⟩
  · cases i <;> nofun
  · have ha : admission s i = none := by
      refine Option.eq_none_iff_forall_ne_some.2 fun c hc => ?_
      have hfail := (admission_eq_some_iff (wf_of_decode hd)).1 hc
      cases c with
      | illegalCmd => exact hfail
      | notConstructed => exact hnone hfail
      | alreadyConstructed => exact hthere hfail
      | invalidPin => exact hpins hfail
      | configUnset => exact hunset hfail
    rw [h.turn_micro hd, h.micro_of_admitted ha]

/-- Settles O17: SEQ's run stops at the fault, where neither SEQ nor HOST has a step. -/
theorem faultEntryIsPrecise : Obligations.FaultEntryIsPrecise := by
  unfold Obligations.FaultEntryIsPrecise
  intro s i c h ha
  have hc := c.bits_ne_zero
  exact ⟨h.exec_of_fault ha, ⟨Nat.pos_of_ne_zero fun h0 => hc (BitVec.eq_of_toNat_eq h0), c.bits_le⟩,
    State.seqEnabled_of_fault hc, State.hostEnabled_of_fault hc⟩

/-! ## ENV -/

/-- ENV has no step with the interrupts off (60_exceptions.md R166). -/
theorem step_env_of_masked {a : PortAct} (hu : s.nextTurn = .env a) (hie : s.ie = false) :
    step s = .next s.unscheduled := by
  rw [step_eq_turn_unscheduled, hu, State.turn, State.envTurn, State.unscheduled_ie, hie]
  rfl

/-- With the interrupts on ENV's step is the port change it names (60_exceptions.md R166). -/
theorem step_env_of_unmasked {a : PortAct} (hu : s.nextTurn = .env a) (hie : s.ie = true) :
    step s = s.unscheduled.turn (.platform a) := by
  rw [step_eq_turn_unscheduled, hu, State.turn, State.envTurn, State.unscheduled_ie, hie]
  rfl

/-- Settles O55: inside the critical section the invariant has the interrupts off. -/
theorem criticalSectionMasksInterrupts : Obligations.CriticalSectionMasksInterrupts := by
  unfold Obligations.CriticalSectionMasksInterrupts
  exact fun s a hu => ⟨step_env_of_masked hu, fun h hp => step_env_of_masked hu (h.critical hp),
    step_env_of_unmasked hu⟩

/-! ## Beside a faulted block -/

/-- A port change writes the port files only (20_memory.md R59). -/
theorem State.portAct_eq {a : PortAct} (h : s.portAct a = .next t) :
    t = { s with portData := t.portData, portMode := t.portMode } := by
  obtain ⟨-, -, -, ⟨-, rfl⟩ | ⟨-, rfl⟩⟩ := State.portAct_cases h <;> rfl

/-- All a step of a faulted block can do, but reset: nothing, a turn of TMR, or a port change
(60_exceptions.md R163, R164). -/
theorem step_of_fault (hf : s.fault ≠ 0) (h : step s = .next t) (hrst : s.nextTurn ≠ .rst) :
    t = s.unscheduled ∨
    ((s.nextTurn = .clk ∨ s.nextTurn = .matchEvent) ∧ t = { s.unscheduled with timer := t.timer }) ∨
    ((∃ a, (s.nextTurn = .env a ∧ s.ie = true) ∨ s.nextTurn = .platform a) ∧
      t = { s.unscheduled with portData := t.portData, portMode := t.portMode }) := by
  cases step_moves h with
  | seq hu n =>
    have hrest := State.microTurn_of_not_enabled (s := s.unscheduled) (State.seqEnabled_of_fault hf)
    exact .inl (State.microTurn_iterate_fixed hrest n)
  | host => exact .inl (State.hostTurn_of_closed (s := s.unscheduled) (.inr hf))
  | clk hu => exact .inr (.inl ⟨.inl hu, State.tmrClk_eq _⟩)
  | matchEvent hu => exact .inr (.inl ⟨.inr hu, State.tmrMatch_eq _⟩)
  | port a hu t ha =>
    rcases hu with hu | hu
    · cases hie : s.ie with
      | true => exact .inr (.inr ⟨⟨a, .inl ⟨hu, rfl⟩⟩, State.portAct_eq ha⟩)
      | false =>
        rw [step_env_of_masked hu hie] at h
        cases h
        exact .inl rfl
    · exact .inr (.inr ⟨⟨a, .inr hu⟩, State.portAct_eq ha⟩)
  | masked => exact .inl rfl
  | rst hu => exact absurd hu hrst

/-- A clock that the slot law allows is the timer's (40_clock.md R84). -/
theorem State.tmrClk_of_slotOpen (h : s.slotOpen = true) : s.tmrClk = { s with timer := s.timer.clk } := by
  simp [State.tmrClk, h]

/-- A match event that TMR has as a step is the timer's (40_clock.md R85). -/
theorem State.tmrMatch_of_enabled (h : s.matchEnabled = true) :
    s.tmrMatch = { s with timer := s.timer.matchEvent } := if_pos h

/-- Settles O19: SEQ and HOST have no step; the slot law does not bind TMR; ENV and the platform go on. -/
theorem faultedBlockIsBlocked : Obligations.FaultedBlockIsBlocked := by
  unfold Obligations.FaultedBlockIsBlocked
  intro s hf
  have hlaw : s.unscheduled.slotOpen = true := State.slotOpen_of_fault hf
  refine ⟨fun t h hrst => ?_, fun hu => ?_, fun hu hm => ?_, fun a => step_env_of_unmasked⟩
  · rcases step_of_fault hf h hrst with rfl | ⟨hu, ht⟩ | ⟨hu, ht⟩
    · exact ⟨rfl, absurd rfl, Or.rec (absurd rfl) (absurd rfl)⟩
    · rw [ht]
      exact ⟨rfl, fun _ => hu, Or.rec (absurd rfl) (absurd rfl)⟩
    · rw [ht]
      exact ⟨rfl, absurd rfl, fun _ => hu⟩
  · rw [step_eq_turn_unscheduled, hu]
    exact congrArg _ (State.tmrClk_of_slotOpen hlaw)
  · rw [step_eq_turn_unscheduled, hu]
    exact congrArg _ (State.tmrMatch_of_enabled (s := s.unscheduled) ((State.matchEnabled_iff _).2 ⟨hm, hlaw⟩))

end Sys2Proof.Machine
end

section
/-! PROOFS. Where the block rests (60_exceptions.md R168, R175): holds end at the match event, and a final state
is idle. -/

namespace Sys2Proof.Machine

variable {s : State} {i : Instr}

/-! ## Past a wait -/

/-- A slot does not lead back to its own wait (42_write.md R139). -/
theorem afterSlot_ne_await (pmode : BitVec 2) (slot : Slot) : afterSlot pmode slot ≠ .await slot := by
  cases slot with
  | bit k =>
    simp only [afterSlot]
    split_ifs <;> simp [Fin.ext_iff]
  | start | par | stop => nofun

/-- From a wait of WRITE with the flag set SEQ runs on to another position, and leaves the flag clear: from the
wait of a slot to the next, from the last to the completion (42_write.md R139). -/
theorem exec_write_leaves_wait {w : WritePos} (hb : s.busy = true) (hf : s.fault = 0) (hp : s.pos = .write w)
    (hw : (Pos.write w).isAwait = true) (ho : s.timer.ocf = true) (d : Lanes Byte) :
    ∃ u, exec (.write d.l0 d.l1 d.l2 d.l3) s = .next u ∧ u.pos ≠ .write w ∧ u.timer.ocf = false := by
  obtain ⟨-, hpre⟩ := writeSlotDrivesTheFourLines
  obtain ⟨hlast, hfirst⟩ := writeCompletesAfterTheStopBits s d hb hf ho
  cases w with
  | pre n =>
    refine ⟨_, hpre s d n hb hf ho hp, ?_, rfl⟩
    cases n <;> simp
  | await slot =>
    refine ⟨_, exec_slot hb hf hp ho d, ?_, ?_⟩ <;> rw [State.slotDone_eq]
    simpa using afterSlot_ne_await s.pmode slot
  | t1 =>
    rcases Nat.lt_or_ge 1 s.stopb.toNat with h2 | h1
    · exact ⟨_, hfirst hp h2, nofun, rfl⟩
    · exact ⟨_, hlast (.inl ⟨hp, h1⟩), nofun, rfl⟩
  | t2 => exact ⟨_, hlast (.inr hp), nofun, rfl⟩
  | latch | count | enter | drv | leave => cases hw

/-- From a wait with the flag set SEQ runs on to another position, and leaves the flag clear (40_clock.md R82). -/
theorem exec_leaves_wait (hb : s.busy = true) (hf : s.fault = 0) (hw : s.pos.isAwait = true)
    (ho : s.timer.ocf = true) (hfits : s.pos.fits i = true) :
    ∃ u, exec i s = .next u ∧ u.pos ≠ s.pos ∧ u.timer.ocf = false := by
  generalize hp : s.pos = p at hw hfits ⊢
  cases p with
  | write w => cases i <;> cases hfits; exact exec_write_leaves_wait hb hf hp hw ho ⟨_, _, _, _⟩
  | clkAwait =>
    cases i <;> cases hfits
    obtain ⟨hpass, -⟩ := clkAwaitWaitsForTheFlag.1 s (.inr ⟨hb, hf, hp⟩)
    exact ⟨_, hpass ho, nofun, rfl⟩
  | idle | adm | construct | begin | destroy | clkConfigure | clkStop | done => cases hw

/-- A wait that finds the flag set is passed in the next step, where nothing is scheduled
(notes/assumptions/2.md). -/
theorem step_leaves_wait (hs : s.sched = []) (hb : s.busy = true) (hf : s.fault = 0)
    (hw : s.pos.isAwait = true) (ho : s.timer.ocf = true) (hd : decode s.cmd = .ok i)
    (hfits : s.pos.fits i = true) : ∃ u, step s = .next u ∧ u.pos ≠ s.pos ∧ u.timer.ocf = false := by
  obtain ⟨u, hx, hleft⟩ := exec_leaves_wait hb hf hw ho hfits
  obtain ⟨hstep, -⟩ := step_of_enabled hs (State.seqEnabled_of_flag hb hf hw ho) hd hx
  exact ⟨u, hstep, hleft⟩

/-! ## Holds and final states -/

/-- What a hold is: SEQ stands at a wait with the flag clear, and TMR has the match event as a step
(60_exceptions.md R168). -/
theorem State.held_iff (s : State) :
    s.held = true ↔ s.busy = true ∧ s.fault = 0 ∧ s.pos.isAwait = true ∧ s.timer.ocf = false ∧
      s.matchEnabled = true := by
  simp [State.held, State.waiting, and_assoc]

/-- Settles O51: the default turn of a hold is the match event, and the default turn after it is SEQ's. -/
theorem everyHoldEndsAtTheMatch : Obligations.EveryHoldEndsAtTheMatch := by
  unfold Obligations.EveryHoldEndsAtTheMatch
  intro s i hheld hs hd hfits
  obtain ⟨hb, hf, hw, -, hm⟩ := s.held_iff.1 hheld
  obtain ⟨hmatch, -⟩ := step_of_held hs hheld
  rw [State.tmrMatch_of_enabled hm] at hmatch
  obtain ⟨u, hpast⟩ :=
    step_leaves_wait (s := { s with timer := s.timer.matchEvent }) hs hb hf hw rfl hd hfits
  exact ⟨_, u, hmatch, rfl, rfl, hpast⟩

/-- What a final state is: no command runs or is left, and no fault stands (60_exceptions.md R175). -/
theorem State.final_iff (s : State) :
    s.final = true ↔ s.busy = false ∧ s.fault = 0 ∧ s.hasCommand = false := by
  cases hb : s.busy with
  | true => simp [State.final, hb]
  | false =>
    simp +contextual [State.final, State.quiescent, State.faulted, State.hung, State.waiting, hb, and_comm]

/-- Settles O57: without a running command SEQ is idle, where every line of a constructed block rests. -/
theorem finalStateRestsIdle : Obligations.FinalStateRestsIdle := by
  unfold Obligations.FinalStateRestsIdle
  intro s h hfinal
  obtain ⟨hb, hf, hcmd⟩ := s.final_iff.1 hfinal
  have hp : s.pos = .idle := by
    by_contra hp
    rw [h.busyPos.2 hp] at hb
    cases hb
  refine ⟨hb, hf, hcmd, hp, fun hc j => ?_⟩
  rw [State.line, if_pos (h.outputs hc j), h.rests hc j (by rw [hp]; rfl), idleLevel]

end Sys2Proof.Machine
end

section
/-! PROOFS. Reset (70_reset_and_hazards.md R190, R191), and the bit period of the clock (R208): where the matches
of the input clocks fall. -/

namespace Sys2Proof.Machine

variable {s : State} {t : Timer}

/-! ## The bit period -/

/-- One bit period in periods of `clk_t` (70_reset_and_hazards.md R208). -/
def Timer.bitPeriod (t : Timer) : Nat := t.div.toNat * t.cmp.toNat

/-- A clock does not change the bit period (40_clock.md R84). -/
@[simp] theorem Timer.clk_bitPeriod (t : Timer) : t.clk.bitPeriod = t.bitPeriod := by
  obtain ⟨-, hdiv, hcmp, -⟩ := t.clk_keeps
  rw [Timer.bitPeriod, Timer.bitPeriod, hdiv, hcmp]

/-- The match event comes at this clock iff it is one clock away (40_clock.md R84). -/
theorem Timer.Counting.clkMatches_iff (h : t.Counting) : t.clkMatches = true ↔ t.clocksToMatch = 1 := by
  have hpre := h.pre_lt
  have hcnt := h.cnt_lt
  obtain ⟨hrun, hdiv, hcmp⟩ := t.canMatch_iff.1 h.canMatch
  have hlast : t.clkMatches = true ↔ t.pre.toNat + 1 = t.div.toNat ∧ t.cnt.toNat + 1 = t.cmp.toNat := by
    simp only [Timer.clkMatches, Timer.clkTicks, Timer.tickMatches, hrun, Bool.and_eq_true, bne_iff_ne, ne_eq,
      beq_iff_eq, hdiv, hcmp, not_false_eq_true, true_and]
  have hticks : (t.cmp.toNat - 1 - t.cnt.toNat) * t.div.toNat = 0 ↔ t.cnt.toNat + 1 = t.cmp.toNat := by
    rw [Nat.mul_eq_zero]
    omega
  rw [hlast, Timer.clocksToMatch, ← hticks]
  omega

/-- From the phase zero the next match is a whole bit period away (70_reset_and_hazards.md R208). -/
theorem Timer.clocksToMatch_of_phase_zero (hpre : t.pre = 0) (hcnt : t.cnt = 0) (hcmp : 0 < t.cmp.toNat) :
    t.clocksToMatch = t.bitPeriod := by
  calc t.clocksToMatch
      = t.div.toNat + (t.cmp.toNat - 1) * t.div.toNat := by rw [Timer.clocksToMatch, hpre, hcnt]; rfl
    _ = (t.cmp.toNat - 1 + 1) * t.div.toNat := by ring
    _ = t.bitPeriod := by rw [Nat.sub_add_cancel hcmp, Nat.mul_comm, Timer.bitPeriod]

/-- A clock brings the match one clock nearer, up to whole bit periods (40_clock.md R84). -/
theorem Timer.Counting.clocksToMatch_clk (h : t.Counting) :
    t.clk.clocksToMatch + 1 ≡ t.clocksToMatch [MOD t.bitPeriod] := by
  rcases h.clk_cases with ⟨hone, hclk⟩ | ⟨hnear, -, -⟩
  · have hfull : t.clk.clocksToMatch = t.bitPeriod := by
      rw [← t.clk_bitPeriod, hclk]
      exact Timer.clocksToMatch_of_phase_zero rfl rfl (Nat.zero_lt_of_lt h.cnt_lt)
    rw [hfull, hone]
    exact Nat.add_modEq_left
  · rw [hnear]

/-- Any number of clocks brings the match that much nearer, up to whole bit periods, within the bounds of the
phase (40_clock.md R84). -/
theorem Timer.Counting.clocksToMatch_iterate_clk (h : t.Counting) (n : Nat) :
    (Timer.clk^[n] t).Counting ∧ (Timer.clk^[n] t).bitPeriod = t.bitPeriod ∧
      (Timer.clk^[n] t).clocksToMatch + n ≡ t.clocksToMatch [MOD t.bitPeriod] := by
  induction n generalizing t with
  | zero => exact ⟨h, rfl, rfl⟩
  | succ n ih =>
    obtain ⟨hcounting, hperiod, hnear⟩ := ih h.clk
    rw [t.clk_bitPeriod] at hperiod hnear
    exact ⟨hcounting, hperiod, (hnear.add_right 1).trans h.clocksToMatch_clk⟩

/-- From the phase zero the clocks that raise a match are those at the multiples of the bit period
(70_reset_and_hazards.md R208). -/
theorem Timer.Counting.clkMatches_iterate_iff (h : t.Counting) (hpre : t.pre = 0) (hcnt : t.cnt = 0) (n : Nat) :
    (Timer.clk^[n] t).clkMatches = true ↔ (n + 1) % t.bitPeriod = 0 := by
  obtain ⟨hcounting, hperiod, hnear⟩ := h.clocksToMatch_iterate_clk n
  have hpos := hcounting.clocksToMatch_pos
  have hle : (Timer.clk^[n] t).clocksToMatch ≤ t.bitPeriod := hperiod ▸ hcounting.clocksToMatch_le
  have hdvd : t.bitPeriod ∣ (Timer.clk^[n] t).clocksToMatch + n := by
    rw [← Nat.modEq_zero_iff_dvd]
    refine hnear.trans ?_
    rw [Timer.clocksToMatch_of_phase_zero hpre hcnt (Nat.zero_lt_of_lt h.cnt_lt)]
    exact Nat.modEq_zero_iff_dvd.2 dvd_rfl
  rw [hcounting.clkMatches_iff, ← Nat.dvd_iff_mod_eq_zero]
  constructor
  · intro hone
    rwa [hone, Nat.add_comm] at hdvd
  · intro hmultiple
    have hrest : t.bitPeriod ∣ (Timer.clk^[n] t).clocksToMatch - 1 := by
      refine (Nat.dvd_add_left hmultiple).1 ?_
      rwa [show (Timer.clk^[n] t).clocksToMatch - 1 + (n + 1) = (Timer.clk^[n] t).clocksToMatch + n by omega]
    have hzero := Nat.eq_zero_of_dvd_of_lt hrest (by omega)
    omega

/-- A timer that starts with nonzero parameters can match (40_clock.md R81, R86). -/
theorem Timer.configure_counting {div cmp : BitVec 16} (hdiv : div ≠ 0) (hcmp : cmp ≠ 0) :
    (Timer.configure div cmp).Counting where
  canMatch := (Timer.canMatch_iff _).2 ⟨rfl, hdiv, hcmp⟩
  pre_lt := Timer.configure_pre_lt hdiv
  cnt_lt := Timer.configure_cnt_lt hcmp

/-- Settles O28: both configurations start from the phase zero, a whole bit period before the first match. -/
theorem bitPeriodIsDividerTimesCompare : Obligations.BitPeriodIsDividerTimesCompare := by
  unfold Obligations.BitPeriodIsDividerTimesCompare
  refine ⟨fun div cmp n hdiv hcmp => (Timer.configure_counting hdiv hcmp).clkMatches_iterate_iff rfl rfl n,
    fun s n hok h20 => ?_⟩
  obtain ⟨hdiv, hcmp⟩ := Config.fixed_ne_zero hok
  rw [State.clockStart_timer, (Timer.configure_counting hdiv hcmp).clkMatches_iterate_iff rfl rfl n,
    Timer.bitPeriod, Timer.configure, h20]
  rfl

/-! ## Reset -/

/-- The step that is the reset event leads to the block after reset, from any state (70_reset_and_hazards.md
R190). -/
theorem step_rst (hu : s.nextTurn = .rst) : step s = .next (.afterReset s.cfg s.host s.sched.tail) := by
  rw [step_eq_turn_unscheduled, hu]
  rfl

/-- With every mode bit 0 no pin is an output, so the lines are Z after reset (10_state.md R16, R30). -/
theorem State.afterReset_line (c : Config) (host : List HostAct) (sched : List Turn) (i : Fin 4) :
    (State.afterReset c host sched).line i = .z := by
  have hoe : (State.afterReset c host sched).oe i = false := by simp [State.oe, State.afterReset]
  simp [State.line, hoe]

/-- Settles O1: the block after reset is idle, with an open port. -/
theorem afterResetTheBlockWaitsForACommand : Obligations.AfterResetTheBlockWaitsForACommand := by
  unfold Obligations.AfterResetTheBlockWaitsForACommand
  exact fun s hu => ⟨_, step_rst hu, rfl, rfl, rfl, rfl, rfl,
    fun w rest hh => congrArg _ (State.hostTurn_command rfl hh)⟩

/-- Settles O2: the elements of the block after reset; its output enables are off, so its lines are Z. -/
theorem resetEventGivesTheResetValues : Obligations.ResetEventGivesTheResetValues := by
  unfold Obligations.ResetEventGivesTheResetValues
  exact fun s hu => ⟨_, step_rst hu, rfl, rfl, rfl, rfl, PortFile.read_nil,
    State.afterReset_line _ _ _, rfl, rfl, rfl, rfl⟩

end Sys2Proof.Machine
end
